-- ==== Sys2Proof/Word.lean ====
section
/-! DEFINITION. The widths the spec gives its words, as abbreviations over bit vectors. -/

namespace Sys2Proof

/-- One 64-bit memory word, S or T register, or vector element (20 R80, 10 R21). -/
abbrev Word := BitVec 64

/-- One 32-bit A or B register, or a logical or absolute word address (10 R20, 20 R82). -/
abbrev AWord := BitVec 32

/-- The 16-bit unit that P counts (30 R120). -/
abbrev Parcel := BitVec 16

/-- One 8-bit byte of the memory list of `Host.Cell`. -/
abbrev Byte := BitVec 8

end Sys2Proof
end

