-- ==== Sys2Proof/Config.lean ====
section
/-! DEFINITION. Bounds that hold of every system, and the values the spec leaves free. The parameters of one system are
`State.sys`, and the conventions a test could show wrong stand in Machine/Parameters.lean. -/

namespace Sys2Proof.Config

/-! ## Sizes -/

/-- The clusters of the largest system, `NCPU + 1` with 32 CPUs (10 R43, 20 R81). -/
def maxClusters : Nat := 33

/-- The lines of the scalar cache (20 R96). -/
def cacheLines : Nat := 128

/-! ## Free values

Constants with no body: nothing can prove a value of them (logs 12, 13, 15, 16, 28, 31, 36). -/

/-- `draw(64)` of 00 R10 (7): the value of the n-th draw. DESIGN CHOICE (log 12), safe. -/
opaque draw : Nat → Word

/-- The floating-point operations that have a configuration function (44 R330). -/
inductive FpOp where
  | fadd | fsub | fmul | fmulh | fmulr | frecipIter | frecipApprox
  deriving DecidableEq, Repr

/-- `cfg.fadd` (44 R330, D14). Uninterpreted (log 13), safe. -/
opaque fadd : Word → Word → Word
/-- `cfg.fsub` (44 R330, D14). Uninterpreted (log 13), safe. -/
opaque fsub : Word → Word → Word
/-- `cfg.fmul` (44 R330, D14). Uninterpreted (log 13), safe. -/
opaque fmul : Word → Word → Word
/-- `cfg.fmulh` (44 R330, D14). Uninterpreted (log 13), safe. -/
opaque fmulh : Word → Word → Word
/-- `cfg.fmulr` (44 R330, D14). Uninterpreted (log 13), safe. -/
opaque fmulr : Word → Word → Word
/-- `cfg.frecip_iter` (44 R330, D14). Uninterpreted (log 13), safe. -/
opaque frecipIter : Word → Word → Word
/-- `cfg.frecip_approx` (44 R330, D14). Uninterpreted (log 13), safe. -/
opaque frecipApprox : Word → Word

/-- `cfg.fp_error(op, a, b)` (44 R330, D14). Uninterpreted (log 13), safe. -/
opaque fpError : FpOp → Word → Word → Bool

/-- `cfg.imul32` (47 R457, D14). Uninterpreted (log 15), safe. -/
opaque imul32 : Word → Word → Word

/-- Which instruction moves the opaque performance monitor (40 R182, 44 R357, R358, R360). -/
inductive PerfOp where
  | select (group : BitVec 3) | read | upper | lower
  deriving DecidableEq, Repr

/-- `cfg.perf_select` and `cfg.perf_step` (D17): how an instruction moves the opaque monitor (log 36), safe. -/
opaque perfStep : PerfOp → Nat → Nat

/-- `OPEN(FLAG_BIT)` (D35): the place of each of the eleven flags in FLAGS, some injective map (log 16), safe. -/
opaque flagBit : Equiv.Perm (Fin 11)

/-- `OPEN(MODE_BIT)` (D35): the place of each of the twelve mode bits in MODES, some injective map (log 16), safe. -/
opaque modeBit : Equiv.Perm (Fin 12)

/-- Whether the choice of 60 R521 falls on the stepped CPU when others could be chosen too (log 28), safe. -/
opaque ioTargetsSelf : Nat → Bool

/-- Whether the destination numbered `k` of an abandoned reference got its new value (D55, log 31), safe. -/
opaque partialDone : Nat → Nat → Bool

end Sys2Proof.Config
end

