-- ==== Sys2Proof/Syntax.lean ====
section
/-! DEFINITION. The abstract syntax: one constructor for each of the 226 rows of spec/opcode_table.json,
163 instructions and 63 second spellings of them (30 R134, R137). -/

namespace Sys2Proof

/-- The instructions. A field `h`, `i`, `j` or `k` is a 3-bit register designator or selector, `jk` the 6-bit number of
30 R126, `target` the 24-bit parcel address of 30 R124, `exp` the 32-bit value of 30 R125. -/
inductive Instr where
  -- Operation codes 000 to 004 (spec/40)
  /-- `000000` R161 -/
  | err
  /-- `0010jk` R162 -/
  | ca (j k : BitVec 3)
  /-- `001000` R163 -/
  | pass
  /-- `0011jk` R164 -/
  | cl (j k : BitVec 3)
  /-- `0012j0` R165 -/
  | ci (j : BitVec 3)
  /-- `0012j1` R166 -/
  | mc (j : BitVec 3)
  /-- `0013j0` R167 -/
  | xa (j : BitVec 3)
  /-- `0014j0` R168 -/
  | rt (j : BitVec 3)
  /-- `0014j1` R169 -/
  | sip (j : BitVec 3)
  /-- `001402` R170 -/
  | cipi
  /-- `0014j3` R171 -/
  | cln (j : BitVec 3)
  /-- `0014j4` R172 -/
  | pci (j : BitVec 3)
  /-- `001405` R173 -/
  | cci
  /-- `001406` R174 -/
  | eci
  /-- `001407` R175 -/
  | dci
  /-- `0015j0` R182 -/
  | selectPerf (j : BitVec 3)
  /-- `001501` R183 -/
  | disablePortA
  /-- `001511` R184 -/
  | disablePortB
  /-- `001521` R185 -/
  | disablePortD
  /-- `001541` R186 -/
  | swapCheckBytes
  /-- `001551` R187 -/
  | replaceCheckBits
  /-- `0016j1` R189 -/
  | ivc (j : BitVec 3)
  /-- `00200k` R190 -/
  | setVl (k : BitVec 3)
  /-- `002100` R191 -/
  | efi
  /-- `002200` R192 -/
  | dfi
  /-- `002300` R193 -/
  | eri
  /-- `002400` R194 -/
  | dri
  /-- `002500` R195 -/
  | dbm
  /-- `002600` R196 -/
  | ebm
  /-- `002700` R197 -/
  | cmr
  /-- `0030j0` R198 -/
  | setVm (j : BitVec 3)
  /-- `0034jk` R199 -/
  | smTestSet (jk : BitVec 6)
  /-- `0036jk` R200 -/
  | smClear (jk : BitVec 6)
  /-- `0037jk` R201 -/
  | smSet (jk : BitVec 6)
  /-- `004000` R202 -/
  | ex
  -- Operation codes 005 to 017 (spec/41)
  /-- `0050jk` R221 -/
  | jumpB (jk : BitVec 6)
  /-- `006ijkm` R222 -/
  | jump (target : BitVec 24)
  /-- `007ijkm` R223 -/
  | returnJump (target : BitVec 24)
  /-- `010ijkm` R224 -/
  | jaz (target : BitVec 24)
  /-- `011ijkm` R225 -/
  | jan (target : BitVec 24)
  /-- `012ijkm` R226 -/
  | jap (target : BitVec 24)
  /-- `013ijkm` R227 -/
  | jam (target : BitVec 24)
  /-- `014ijkm` R228 -/
  | jsz (target : BitVec 24)
  /-- `015ijkm` R229 -/
  | jsn (target : BitVec 24)
  /-- `016ijkm` R230 -/
  | jsp (target : BitVec 24)
  /-- `017ijkm` R231 -/
  | jsm (target : BitVec 24)
  -- Operation codes 020 to 037 (spec/42)
  /-- `020i00mn` R241 -/
  | aExp (i : BitVec 3) (exp : BitVec 32)
  /-- `021i00mn` R242 -/
  | aExpNot (i : BitVec 3) (exp : BitVec 32)
  /-- `022ijk` R243 -/
  | aShort (i : BitVec 3) (jk : BitVec 6)
  /-- `023ij0` R244 -/
  | aFromS (i j : BitVec 3)
  /-- `023i01` R245 -/
  | aFromVl (i : BitVec 3)
  /-- `024ijk` R246 -/
  | aFromB (i : BitVec 3) (jk : BitVec 6)
  /-- `025ijk` R247 -/
  | bFromA (i : BitVec 3) (jk : BitVec 6)
  /-- `026ij0` R248 -/
  | aPop (i j : BitVec 3)
  /-- `026ij1` R249 -/
  | aParity (i j : BitVec 3)
  /-- `026ij7` R250 -/
  | aFromSb (i j : BitVec 3)
  /-- `027ij0` R251 -/
  | aLzc (i j : BitVec 3)
  /-- `027ij7` R252 -/
  | sbFromA (i j : BitVec 3)
  /-- `030ijk` R253 -/
  | aAdd (i j k : BitVec 3)
  /-- `031ijk` R254 -/
  | aSub (i j k : BitVec 3)
  /-- `032ijk` R255 -/
  | aMul (i j k : BitVec 3)
  /-- `033i00` R256 -/
  | aChanInt (i : BitVec 3)
  /-- `033ij0` R257 -/
  | aChanAddr (i j : BitVec 3)
  /-- `033ij1` R258 -/
  | aChanErr (i j : BitVec 3)
  /-- `034ijk` R264 -/
  | loadB (i : BitVec 3) (jk : BitVec 6)
  /-- `035ijk` R265 -/
  | storeB (i : BitVec 3) (jk : BitVec 6)
  /-- `036ijk` R266 -/
  | loadT (i : BitVec 3) (jk : BitVec 6)
  /-- `037ijk` R267 -/
  | storeT (i : BitVec 3) (jk : BitVec 6)
  -- Operation codes 040 to 061 (spec/43)
  /-- `040i00mn` R281 -/
  | sExp (i : BitVec 3) (exp : BitVec 32)
  /-- `041i00mn` R282 -/
  | sExpNot (i : BitVec 3) (exp : BitVec 32)
  /-- `042ijk` R283 -/
  | sMaskRight (i : BitVec 3) (jk : BitVec 6)
  /-- `043ijk` R284 -/
  | sMaskLeft (i : BitVec 3) (jk : BitVec 6)
  /-- `044ijk` R285 -/
  | sAnd (i j k : BitVec 3)
  /-- `045ijk` R286 -/
  | sAndNot (i j k : BitVec 3)
  /-- `046ijk` R287 -/
  | sXor (i j k : BitVec 3)
  /-- `047ijk` R288 -/
  | sXnor (i j k : BitVec 3)
  /-- `050ijk` R289 -/
  | sMerge (i j k : BitVec 3)
  /-- `051ijk` R290 -/
  | sOr (i j k : BitVec 3)
  /-- `052ijk` R291 -/
  | s0ShiftLeft (i : BitVec 3) (jk : BitVec 6)
  /-- `053ijk` R292 -/
  | s0ShiftRight (i : BitVec 3) (jk : BitVec 6)
  /-- `054ijk` R293 -/
  | sShiftLeft (i : BitVec 3) (jk : BitVec 6)
  /-- `055ijk` R294 -/
  | sShiftRight (i : BitVec 3) (jk : BitVec 6)
  /-- `056ijk` R295 -/
  | sDoubleLeft (i j k : BitVec 3)
  /-- `057ijk` R296 -/
  | sDoubleRight (i j k : BitVec 3)
  /-- `060ijk` R297 -/
  | sAdd (i j k : BitVec 3)
  /-- `061ijk` R298 -/
  | sSub (i j k : BitVec 3)
  -- Operation codes 062 to 077 (spec/44)
  /-- `062ijk` R331 -/
  | sFadd (i j k : BitVec 3)
  /-- `063ijk` R332 -/
  | sFsub (i j k : BitVec 3)
  /-- `064ijk` R333 -/
  | sFmul (i j k : BitVec 3)
  /-- `065ijk` R334 -/
  | sFmulH (i j k : BitVec 3)
  /-- `066ijk` R335 -/
  | sFmulR (i j k : BitVec 3)
  /-- `067ijk` R336 -/
  | sRecipIter (i j k : BitVec 3)
  /-- `070ij0` R337 -/
  | sRecip (i j : BitVec 3)
  /-- `071i0k` R341 -/
  | sFromA (i k : BitVec 3)
  /-- `071i1k` R342 -/
  | sFromASigned (i k : BitVec 3)
  /-- `071i2k` R343 -/
  | sFloatFromA (i k : BitVec 3)
  /-- `071i30` R344 -/
  | sThreeQuarters (i : BitVec 3)
  /-- `071i40` R345 -/
  | sHalf (i : BitVec 3)
  /-- `071i50` R346 -/
  | sOne (i : BitVec 3)
  /-- `071i60` R347 -/
  | sTwo (i : BitVec 3)
  /-- `071i70` R348 -/
  | sFour (i : BitVec 3)
  /-- `072i00` R350 -/
  | sFromRt (i : BitVec 3)
  /-- `072i02` R351 -/
  | sFromSm (i : BitVec 3)
  /-- `072ij3` R352 -/
  | sFromSt (i j : BitVec 3)
  /-- `073i00` R353 -/
  | sFromVm (i : BitVec 3)
  /-- `073i01` R354 -/
  | sFromSr0 (i : BitVec 3)
  /-- `073i02` R355 -/
  | smFromS (i : BitVec 3)
  /-- `073ij3` R356 -/
  | stFromS (i j : BitVec 3)
  /-- `073i11` R357 -/
  | readPerf (i : BitVec 3)
  /-- `073i21` R358 -/
  | incPerfUpper (i : BitVec 3)
  /-- `073i31` R359 -/
  | clearMaint (i : BitVec 3)
  /-- `073i61` R360 -/
  | incPerfLower (i : BitVec 3)
  /-- `074ijk` R361 -/
  | sFromT (i : BitVec 3) (jk : BitVec 6)
  /-- `075ijk` R362 -/
  | tFromS (i : BitVec 3) (jk : BitVec 6)
  /-- `076ijk` R363 -/
  | sFromV (i j k : BitVec 3)
  /-- `077ijk` R364 -/
  | vFromS (i j k : BitVec 3)
  -- Operation codes 10h to 13h (spec/45)
  /-- `10hi00mn` R390 -/
  | loadA (h i : BitVec 3) (exp : BitVec 32)
  /-- `11hi00mn` R391 -/
  | storeA (h i : BitVec 3) (exp : BitVec 32)
  /-- `12hi00mn` R392 -/
  | loadS (h i : BitVec 3) (exp : BitVec 32)
  /-- `13hi00mn` R393 -/
  | storeS (h i : BitVec 3) (exp : BitVec 32)
  -- Operation codes 140 to 157 (spec/46)
  /-- `140ijk` R411 -/
  | vsAnd (i j k : BitVec 3)
  /-- `141ijk` R412 -/
  | vvAnd (i j k : BitVec 3)
  /-- `142ijk` R413 -/
  | vsOr (i j k : BitVec 3)
  /-- `143ijk` R414 -/
  | vvOr (i j k : BitVec 3)
  /-- `144ijk` R415 -/
  | vsXor (i j k : BitVec 3)
  /-- `145ijk` R416 -/
  | vvXor (i j k : BitVec 3)
  /-- `146ijk` R417 -/
  | vsMerge (i j k : BitVec 3)
  /-- `147ijk` R418 -/
  | vvMerge (i j k : BitVec 3)
  /-- `150ijk` R419 -/
  | vShiftLeft (i j k : BitVec 3)
  /-- `151ijk` R420 -/
  | vShiftRight (i j k : BitVec 3)
  /-- `152ijk` R421 -/
  | vDoubleLeft (i j k : BitVec 3)
  /-- `153ijk` R422 -/
  | vDoubleRight (i j k : BitVec 3)
  /-- `154ijk` R423 -/
  | vsAdd (i j k : BitVec 3)
  /-- `155ijk` R424 -/
  | vvAdd (i j k : BitVec 3)
  /-- `156ijk` R425 -/
  | vsSub (i j k : BitVec 3)
  /-- `157ijk` R426 -/
  | vvSub (i j k : BitVec 3)
  -- Operation codes 160 to 177 (spec/47)
  /-- `160ijk` R451 -/
  | vsFmul (i j k : BitVec 3)
  /-- `161ijk` R452 -/
  | vvFmul (i j k : BitVec 3)
  /-- `162ijk` R453 -/
  | vsFmulH (i j k : BitVec 3)
  /-- `163ijk` R454 -/
  | vvFmulH (i j k : BitVec 3)
  /-- `164ijk` R455 -/
  | vsFmulR (i j k : BitVec 3)
  /-- `165ijk` R456 -/
  | vvFmulR (i j k : BitVec 3)
  /-- `166ijk` R457 -/
  | vsImul32 (i j k : BitVec 3)
  /-- `167ijk` R458 -/
  | vvRecipIter (i j k : BitVec 3)
  /-- `170ijk` R459 -/
  | vsFadd (i j k : BitVec 3)
  /-- `171ijk` R460 -/
  | vvFadd (i j k : BitVec 3)
  /-- `172ijk` R461 -/
  | vsFsub (i j k : BitVec 3)
  /-- `173ijk` R462 -/
  | vvFsub (i j k : BitVec 3)
  /-- `174ij0` R463 -/
  | vRecip (i j : BitVec 3)
  /-- `174ij1` R464 -/
  | vPop (i j : BitVec 3)
  /-- `174ij2` R465 -/
  | vParity (i j : BitVec 3)
  /-- `1750j0` R467 -/
  | vmZero (j : BitVec 3)
  /-- `1750j1` R468 -/
  | vmNonzero (j : BitVec 3)
  /-- `1750j2` R469 -/
  | vmPlus (j : BitVec 3)
  /-- `1750j3` R470 -/
  | vmMinus (j : BitVec 3)
  /-- `175ij4` R471 -/
  | vmZeroIdx (i j : BitVec 3)
  /-- `175ij5` R472 -/
  | vmNonzeroIdx (i j : BitVec 3)
  /-- `175ij6` R473 -/
  | vmPlusIdx (i j : BitVec 3)
  /-- `175ij7` R479 -/
  | vmMinusIdx (i j : BitVec 3)
  /-- `176i0k` R474 -/
  | vLoad (i k : BitVec 3)
  /-- `176i1k` R475 -/
  | vGather (i k : BitVec 3)
  /-- `1770jk` R476 -/
  | vStore (j k : BitVec 3)
  /-- `1771jk` R477 -/
  | vScatter (j k : BitVec 3)
  -- Special syntax forms (30 R134): second spellings, never decoded
  /-- `001401` R169 -/
  | sipi
  /-- `002000` R190 -/
  | setVlOne
  /-- `003000` R198 -/
  | clearVm
  /-- `030i0k` R253 -/
  | aCopy (i k : BitVec 3)
  /-- `030ij0` R253 -/
  | aInc (i j : BitVec 3)
  /-- `031i00` R254 -/
  | aMinusOne (i : BitVec 3)
  /-- `031i0k` R254 -/
  | aNeg (i k : BitVec 3)
  /-- `031ij0` R254 -/
  | aDec (i j : BitVec 3)
  /-- `034ijk` R264 -/
  | loadBZero (i : BitVec 3) (jk : BitVec 6)
  /-- `035ijk` R265 -/
  | storeBZero (i : BitVec 3) (jk : BitVec 6)
  /-- `036ijk` R266 -/
  | loadTZero (i : BitVec 3) (jk : BitVec 6)
  /-- `037ijk` R267 -/
  | storeTZero (i : BitVec 3) (jk : BitVec 6)
  /-- `042ijk` R283 -/
  | sZeroesLeft (i : BitVec 3) (jk : BitVec 6)
  /-- `042i77` R283 -/
  | sIntOne (i : BitVec 3)
  /-- `042i00` R283 -/
  | sMinusOne (i : BitVec 3)
  /-- `043ijk` R284 -/
  | sZeroesRight (i : BitVec 3) (jk : BitVec 6)
  /-- `043i00` R284 -/
  | sClear (i : BitVec 3)
  /-- `044ij0` R285 -/
  | sSignOf (i j : BitVec 3)
  /-- `044ij0` R285 -/
  | sSignOf2 (i j : BitVec 3)
  /-- `045ij0` R286 -/
  | sClearSign (i j : BitVec 3)
  /-- `046ij0` R287 -/
  | sToggleSign (i j : BitVec 3)
  /-- `046ij0` R287 -/
  | sToggleSign2 (i j : BitVec 3)
  /-- `047i0k` R288 -/
  | sNot (i k : BitVec 3)
  /-- `047ij0` R288 -/
  | sXnorSign (i j : BitVec 3)
  /-- `047ij0` R288 -/
  | sXnorSign2 (i j : BitVec 3)
  /-- `047i00` R288 -/
  | sNotSign (i : BitVec 3)
  /-- `050ij0` R289 -/
  | sMergeSign (i j : BitVec 3)
  /-- `051i0k` R290 -/
  | sCopy (i k : BitVec 3)
  /-- `051ij0` R290 -/
  | sSetSign (i j : BitVec 3)
  /-- `051ij0` R290 -/
  | sSetSign2 (i j : BitVec 3)
  /-- `051i00` R290 -/
  | sSignBit (i : BitVec 3)
  /-- `056ij0` R295 -/
  | sDoubleLeftOne (i j : BitVec 3)
  /-- `056i0k` R295 -/
  | sLeftByA (i k : BitVec 3)
  /-- `057ij0` R296 -/
  | sDoubleRightOne (i j : BitVec 3)
  /-- `057i0k` R296 -/
  | sRightByA (i k : BitVec 3)
  /-- `061i0k` R298 -/
  | sNeg (i k : BitVec 3)
  /-- `062i0k` R331 -/
  | sFnormalize (i k : BitVec 3)
  /-- `063i0k` R332 -/
  | sFnegate (i k : BitVec 3)
  /-- `077i0k` R364 -/
  | vClearElement (i k : BitVec 3)
  /-- `100i00mn` R390 -/
  | loadAAbs (i : BitVec 3) (exp : BitVec 32)
  /-- `100i00mn` R390 -/
  | loadAAbs2 (i : BitVec 3) (exp : BitVec 32)
  /-- `10hi0000` R390 -/
  | loadAInd (h i : BitVec 3)
  /-- `110i00mn` R391 -/
  | storeAAbs (i : BitVec 3) (exp : BitVec 32)
  /-- `110i00mn` R391 -/
  | storeAAbs2 (i : BitVec 3) (exp : BitVec 32)
  /-- `11hi0000` R391 -/
  | storeAInd (h i : BitVec 3)
  /-- `120i00mn` R392 -/
  | loadSAbs (i : BitVec 3) (exp : BitVec 32)
  /-- `120i00mn` R392 -/
  | loadSAbs2 (i : BitVec 3) (exp : BitVec 32)
  /-- `12hi0000` R392 -/
  | loadSInd (h i : BitVec 3)
  /-- `130i00mn` R393 -/
  | storeSAbs (i : BitVec 3) (exp : BitVec 32)
  /-- `130i00mn` R393 -/
  | storeSAbs2 (i : BitVec 3) (exp : BitVec 32)
  /-- `13hi0000` R393 -/
  | storeSInd (h i : BitVec 3)
  /-- `142i0k` R413 -/
  | vCopy (i k : BitVec 3)
  /-- `145iii` R416 -/
  | vClear (i : BitVec 3)
  /-- `146i0k` R417 -/
  | vMergeZero (i k : BitVec 3)
  /-- `150ij0` R419 -/
  | vLeftOne (i j : BitVec 3)
  /-- `151ij0` R420 -/
  | vRightOne (i j : BitVec 3)
  /-- `152ij0` R421 -/
  | vDoubleLeftOne (i j : BitVec 3)
  /-- `153ij0` R422 -/
  | vDoubleRightOne (i j : BitVec 3)
  /-- `156i0k` R425 -/
  | vNeg (i k : BitVec 3)
  /-- `170i0k` R459 -/
  | vFnormalize (i k : BitVec 3)
  /-- `172i0k` R461 -/
  | vFnegate (i k : BitVec 3)
  /-- `176i00` R474 -/
  | vLoadOne (i : BitVec 3)
  /-- `1770j0` R476 -/
  | vStoreOne (j : BitVec 3)
  deriving DecidableEq, Repr

namespace Instr

/-- Whether an instruction is a second spelling, which the decoder never answers (30 R131, R134). -/
def isSpelling : Instr → Bool
  | .err => false
  | .ca _ _ => false
  | .pass => false
  | .cl _ _ => false
  | .ci _ => false
  | .mc _ => false
  | .xa _ => false
  | .rt _ => false
  | .sip _ => false
  | .cipi => false
  | .cln _ => false
  | .pci _ => false
  | .cci => false
  | .eci => false
  | .dci => false
  | .selectPerf _ => false
  | .disablePortA => false
  | .disablePortB => false
  | .disablePortD => false
  | .swapCheckBytes => false
  | .replaceCheckBits => false
  | .ivc _ => false
  | .setVl _ => false
  | .efi => false
  | .dfi => false
  | .eri => false
  | .dri => false
  | .dbm => false
  | .ebm => false
  | .cmr => false
  | .setVm _ => false
  | .smTestSet _ => false
  | .smClear _ => false
  | .smSet _ => false
  | .ex => false
  | .jumpB _ => false
  | .jump _ => false
  | .returnJump _ => false
  | .jaz _ => false
  | .jan _ => false
  | .jap _ => false
  | .jam _ => false
  | .jsz _ => false
  | .jsn _ => false
  | .jsp _ => false
  | .jsm _ => false
  | .aExp _ _ => false
  | .aExpNot _ _ => false
  | .aShort _ _ => false
  | .aFromS _ _ => false
  | .aFromVl _ => false
  | .aFromB _ _ => false
  | .bFromA _ _ => false
  | .aPop _ _ => false
  | .aParity _ _ => false
  | .aFromSb _ _ => false
  | .aLzc _ _ => false
  | .sbFromA _ _ => false
  | .aAdd _ _ _ => false
  | .aSub _ _ _ => false
  | .aMul _ _ _ => false
  | .aChanInt _ => false
  | .aChanAddr _ _ => false
  | .aChanErr _ _ => false
  | .loadB _ _ => false
  | .storeB _ _ => false
  | .loadT _ _ => false
  | .storeT _ _ => false
  | .sExp _ _ => false
  | .sExpNot _ _ => false
  | .sMaskRight _ _ => false
  | .sMaskLeft _ _ => false
  | .sAnd _ _ _ => false
  | .sAndNot _ _ _ => false
  | .sXor _ _ _ => false
  | .sXnor _ _ _ => false
  | .sMerge _ _ _ => false
  | .sOr _ _ _ => false
  | .s0ShiftLeft _ _ => false
  | .s0ShiftRight _ _ => false
  | .sShiftLeft _ _ => false
  | .sShiftRight _ _ => false
  | .sDoubleLeft _ _ _ => false
  | .sDoubleRight _ _ _ => false
  | .sAdd _ _ _ => false
  | .sSub _ _ _ => false
  | .sFadd _ _ _ => false
  | .sFsub _ _ _ => false
  | .sFmul _ _ _ => false
  | .sFmulH _ _ _ => false
  | .sFmulR _ _ _ => false
  | .sRecipIter _ _ _ => false
  | .sRecip _ _ => false
  | .sFromA _ _ => false
  | .sFromASigned _ _ => false
  | .sFloatFromA _ _ => false
  | .sThreeQuarters _ => false
  | .sHalf _ => false
  | .sOne _ => false
  | .sTwo _ => false
  | .sFour _ => false
  | .sFromRt _ => false
  | .sFromSm _ => false
  | .sFromSt _ _ => false
  | .sFromVm _ => false
  | .sFromSr0 _ => false
  | .smFromS _ => false
  | .stFromS _ _ => false
  | .readPerf _ => false
  | .incPerfUpper _ => false
  | .clearMaint _ => false
  | .incPerfLower _ => false
  | .sFromT _ _ => false
  | .tFromS _ _ => false
  | .sFromV _ _ _ => false
  | .vFromS _ _ _ => false
  | .loadA _ _ _ => false
  | .storeA _ _ _ => false
  | .loadS _ _ _ => false
  | .storeS _ _ _ => false
  | .vsAnd _ _ _ => false
  | .vvAnd _ _ _ => false
  | .vsOr _ _ _ => false
  | .vvOr _ _ _ => false
  | .vsXor _ _ _ => false
  | .vvXor _ _ _ => false
  | .vsMerge _ _ _ => false
  | .vvMerge _ _ _ => false
  | .vShiftLeft _ _ _ => false
  | .vShiftRight _ _ _ => false
  | .vDoubleLeft _ _ _ => false
  | .vDoubleRight _ _ _ => false
  | .vsAdd _ _ _ => false
  | .vvAdd _ _ _ => false
  | .vsSub _ _ _ => false
  | .vvSub _ _ _ => false
  | .vsFmul _ _ _ => false
  | .vvFmul _ _ _ => false
  | .vsFmulH _ _ _ => false
  | .vvFmulH _ _ _ => false
  | .vsFmulR _ _ _ => false
  | .vvFmulR _ _ _ => false
  | .vsImul32 _ _ _ => false
  | .vvRecipIter _ _ _ => false
  | .vsFadd _ _ _ => false
  | .vvFadd _ _ _ => false
  | .vsFsub _ _ _ => false
  | .vvFsub _ _ _ => false
  | .vRecip _ _ => false
  | .vPop _ _ => false
  | .vParity _ _ => false
  | .vmZero _ => false
  | .vmNonzero _ => false
  | .vmPlus _ => false
  | .vmMinus _ => false
  | .vmZeroIdx _ _ => false
  | .vmNonzeroIdx _ _ => false
  | .vmPlusIdx _ _ => false
  | .vmMinusIdx _ _ => false
  | .vLoad _ _ => false
  | .vGather _ _ => false
  | .vStore _ _ => false
  | .vScatter _ _ => false
  | .sipi => true
  | .setVlOne => true
  | .clearVm => true
  | .aCopy _ _ => true
  | .aInc _ _ => true
  | .aMinusOne _ => true
  | .aNeg _ _ => true
  | .aDec _ _ => true
  | .loadBZero _ _ => true
  | .storeBZero _ _ => true
  | .loadTZero _ _ => true
  | .storeTZero _ _ => true
  | .sZeroesLeft _ _ => true
  | .sIntOne _ => true
  | .sMinusOne _ => true
  | .sZeroesRight _ _ => true
  | .sClear _ => true
  | .sSignOf _ _ => true
  | .sSignOf2 _ _ => true
  | .sClearSign _ _ => true
  | .sToggleSign _ _ => true
  | .sToggleSign2 _ _ => true
  | .sNot _ _ => true
  | .sXnorSign _ _ => true
  | .sXnorSign2 _ _ => true
  | .sNotSign _ => true
  | .sMergeSign _ _ => true
  | .sCopy _ _ => true
  | .sSetSign _ _ => true
  | .sSetSign2 _ _ => true
  | .sSignBit _ => true
  | .sDoubleLeftOne _ _ => true
  | .sLeftByA _ _ => true
  | .sDoubleRightOne _ _ => true
  | .sRightByA _ _ => true
  | .sNeg _ _ => true
  | .sFnormalize _ _ => true
  | .sFnegate _ _ => true
  | .vClearElement _ _ => true
  | .loadAAbs _ _ => true
  | .loadAAbs2 _ _ => true
  | .loadAInd _ _ => true
  | .storeAAbs _ _ => true
  | .storeAAbs2 _ _ => true
  | .storeAInd _ _ => true
  | .loadSAbs _ _ => true
  | .loadSAbs2 _ _ => true
  | .loadSInd _ _ => true
  | .storeSAbs _ _ => true
  | .storeSAbs2 _ _ => true
  | .storeSInd _ _ => true
  | .vCopy _ _ => true
  | .vClear _ => true
  | .vMergeZero _ _ => true
  | .vLeftOne _ _ => true
  | .vRightOne _ _ => true
  | .vDoubleLeftOne _ _ => true
  | .vDoubleRightOne _ _ => true
  | .vNeg _ _ => true
  | .vFnormalize _ _ => true
  | .vFnegate _ _ => true
  | .vLoadOne _ => true
  | .vStoreOne _ => true

/-- The instruction of the table a second spelling stands for, with its fixed field (30 R134);
every other instruction is its own. -/
def primary : Instr → Instr
  | .err => .err
  | .ca j k => .ca j k
  | .pass => .pass
  | .cl j k => .cl j k
  | .ci j => .ci j
  | .mc j => .mc j
  | .xa j => .xa j
  | .rt j => .rt j
  | .sip j => .sip j
  | .cipi => .cipi
  | .cln j => .cln j
  | .pci j => .pci j
  | .cci => .cci
  | .eci => .eci
  | .dci => .dci
  | .selectPerf j => .selectPerf j
  | .disablePortA => .disablePortA
  | .disablePortB => .disablePortB
  | .disablePortD => .disablePortD
  | .swapCheckBytes => .swapCheckBytes
  | .replaceCheckBits => .replaceCheckBits
  | .ivc j => .ivc j
  | .setVl k => .setVl k
  | .efi => .efi
  | .dfi => .dfi
  | .eri => .eri
  | .dri => .dri
  | .dbm => .dbm
  | .ebm => .ebm
  | .cmr => .cmr
  | .setVm j => .setVm j
  | .smTestSet jk => .smTestSet jk
  | .smClear jk => .smClear jk
  | .smSet jk => .smSet jk
  | .ex => .ex
  | .jumpB jk => .jumpB jk
  | .jump target => .jump target
  | .returnJump target => .returnJump target
  | .jaz target => .jaz target
  | .jan target => .jan target
  | .jap target => .jap target
  | .jam target => .jam target
  | .jsz target => .jsz target
  | .jsn target => .jsn target
  | .jsp target => .jsp target
  | .jsm target => .jsm target
  | .aExp i exp => .aExp i exp
  | .aExpNot i exp => .aExpNot i exp
  | .aShort i jk => .aShort i jk
  | .aFromS i j => .aFromS i j
  | .aFromVl i => .aFromVl i
  | .aFromB i jk => .aFromB i jk
  | .bFromA i jk => .bFromA i jk
  | .aPop i j => .aPop i j
  | .aParity i j => .aParity i j
  | .aFromSb i j => .aFromSb i j
  | .aLzc i j => .aLzc i j
  | .sbFromA i j => .sbFromA i j
  | .aAdd i j k => .aAdd i j k
  | .aSub i j k => .aSub i j k
  | .aMul i j k => .aMul i j k
  | .aChanInt i => .aChanInt i
  | .aChanAddr i j => .aChanAddr i j
  | .aChanErr i j => .aChanErr i j
  | .loadB i jk => .loadB i jk
  | .storeB i jk => .storeB i jk
  | .loadT i jk => .loadT i jk
  | .storeT i jk => .storeT i jk
  | .sExp i exp => .sExp i exp
  | .sExpNot i exp => .sExpNot i exp
  | .sMaskRight i jk => .sMaskRight i jk
  | .sMaskLeft i jk => .sMaskLeft i jk
  | .sAnd i j k => .sAnd i j k
  | .sAndNot i j k => .sAndNot i j k
  | .sXor i j k => .sXor i j k
  | .sXnor i j k => .sXnor i j k
  | .sMerge i j k => .sMerge i j k
  | .sOr i j k => .sOr i j k
  | .s0ShiftLeft i jk => .s0ShiftLeft i jk
  | .s0ShiftRight i jk => .s0ShiftRight i jk
  | .sShiftLeft i jk => .sShiftLeft i jk
  | .sShiftRight i jk => .sShiftRight i jk
  | .sDoubleLeft i j k => .sDoubleLeft i j k
  | .sDoubleRight i j k => .sDoubleRight i j k
  | .sAdd i j k => .sAdd i j k
  | .sSub i j k => .sSub i j k
  | .sFadd i j k => .sFadd i j k
  | .sFsub i j k => .sFsub i j k
  | .sFmul i j k => .sFmul i j k
  | .sFmulH i j k => .sFmulH i j k
  | .sFmulR i j k => .sFmulR i j k
  | .sRecipIter i j k => .sRecipIter i j k
  | .sRecip i j => .sRecip i j
  | .sFromA i k => .sFromA i k
  | .sFromASigned i k => .sFromASigned i k
  | .sFloatFromA i k => .sFloatFromA i k
  | .sThreeQuarters i => .sThreeQuarters i
  | .sHalf i => .sHalf i
  | .sOne i => .sOne i
  | .sTwo i => .sTwo i
  | .sFour i => .sFour i
  | .sFromRt i => .sFromRt i
  | .sFromSm i => .sFromSm i
  | .sFromSt i j => .sFromSt i j
  | .sFromVm i => .sFromVm i
  | .sFromSr0 i => .sFromSr0 i
  | .smFromS i => .smFromS i
  | .stFromS i j => .stFromS i j
  | .readPerf i => .readPerf i
  | .incPerfUpper i => .incPerfUpper i
  | .clearMaint i => .clearMaint i
  | .incPerfLower i => .incPerfLower i
  | .sFromT i jk => .sFromT i jk
  | .tFromS i jk => .tFromS i jk
  | .sFromV i j k => .sFromV i j k
  | .vFromS i j k => .vFromS i j k
  | .loadA h i exp => .loadA h i exp
  | .storeA h i exp => .storeA h i exp
  | .loadS h i exp => .loadS h i exp
  | .storeS h i exp => .storeS h i exp
  | .vsAnd i j k => .vsAnd i j k
  | .vvAnd i j k => .vvAnd i j k
  | .vsOr i j k => .vsOr i j k
  | .vvOr i j k => .vvOr i j k
  | .vsXor i j k => .vsXor i j k
  | .vvXor i j k => .vvXor i j k
  | .vsMerge i j k => .vsMerge i j k
  | .vvMerge i j k => .vvMerge i j k
  | .vShiftLeft i j k => .vShiftLeft i j k
  | .vShiftRight i j k => .vShiftRight i j k
  | .vDoubleLeft i j k => .vDoubleLeft i j k
  | .vDoubleRight i j k => .vDoubleRight i j k
  | .vsAdd i j k => .vsAdd i j k
  | .vvAdd i j k => .vvAdd i j k
  | .vsSub i j k => .vsSub i j k
  | .vvSub i j k => .vvSub i j k
  | .vsFmul i j k => .vsFmul i j k
  | .vvFmul i j k => .vvFmul i j k
  | .vsFmulH i j k => .vsFmulH i j k
  | .vvFmulH i j k => .vvFmulH i j k
  | .vsFmulR i j k => .vsFmulR i j k
  | .vvFmulR i j k => .vvFmulR i j k
  | .vsImul32 i j k => .vsImul32 i j k
  | .vvRecipIter i j k => .vvRecipIter i j k
  | .vsFadd i j k => .vsFadd i j k
  | .vvFadd i j k => .vvFadd i j k
  | .vsFsub i j k => .vsFsub i j k
  | .vvFsub i j k => .vvFsub i j k
  | .vRecip i j => .vRecip i j
  | .vPop i j => .vPop i j
  | .vParity i j => .vParity i j
  | .vmZero j => .vmZero j
  | .vmNonzero j => .vmNonzero j
  | .vmPlus j => .vmPlus j
  | .vmMinus j => .vmMinus j
  | .vmZeroIdx i j => .vmZeroIdx i j
  | .vmNonzeroIdx i j => .vmNonzeroIdx i j
  | .vmPlusIdx i j => .vmPlusIdx i j
  | .vmMinusIdx i j => .vmMinusIdx i j
  | .vLoad i k => .vLoad i k
  | .vGather i k => .vGather i k
  | .vStore j k => .vStore j k
  | .vScatter j k => .vScatter j k
  | .sipi => .sip 0
  | .setVlOne => .setVl 0
  | .clearVm => .setVm 0
  | .aCopy i k => .aAdd i 0 k
  | .aInc i j => .aAdd i j 0
  | .aMinusOne i => .aSub i 0 0
  | .aNeg i k => .aSub i 0 k
  | .aDec i j => .aSub i j 0
  | .loadBZero i jk => .loadB i jk
  | .storeBZero i jk => .storeB i jk
  | .loadTZero i jk => .loadT i jk
  | .storeTZero i jk => .storeT i jk
  | .sZeroesLeft i jk => .sMaskRight i jk
  | .sIntOne i => .sMaskRight i 63
  | .sMinusOne i => .sMaskRight i 0
  | .sZeroesRight i jk => .sMaskLeft i jk
  | .sClear i => .sMaskLeft i 0
  | .sSignOf i j => .sAnd i j 0
  | .sSignOf2 i j => .sAnd i j 0
  | .sClearSign i j => .sAndNot i j 0
  | .sToggleSign i j => .sXor i j 0
  | .sToggleSign2 i j => .sXor i j 0
  | .sNot i k => .sXnor i 0 k
  | .sXnorSign i j => .sXnor i j 0
  | .sXnorSign2 i j => .sXnor i j 0
  | .sNotSign i => .sXnor i 0 0
  | .sMergeSign i j => .sMerge i j 0
  | .sCopy i k => .sOr i 0 k
  | .sSetSign i j => .sOr i j 0
  | .sSetSign2 i j => .sOr i j 0
  | .sSignBit i => .sOr i 0 0
  | .sDoubleLeftOne i j => .sDoubleLeft i j 0
  | .sLeftByA i k => .sDoubleLeft i 0 k
  | .sDoubleRightOne i j => .sDoubleRight i j 0
  | .sRightByA i k => .sDoubleRight i 0 k
  | .sNeg i k => .sSub i 0 k
  | .sFnormalize i k => .sFadd i 0 k
  | .sFnegate i k => .sFsub i 0 k
  | .vClearElement i k => .vFromS i 0 k
  | .loadAAbs i exp => .loadA 0 i exp
  | .loadAAbs2 i exp => .loadA 0 i exp
  | .loadAInd h i => .loadA h i 0
  | .storeAAbs i exp => .storeA 0 i exp
  | .storeAAbs2 i exp => .storeA 0 i exp
  | .storeAInd h i => .storeA h i 0
  | .loadSAbs i exp => .loadS 0 i exp
  | .loadSAbs2 i exp => .loadS 0 i exp
  | .loadSInd h i => .loadS h i 0
  | .storeSAbs i exp => .storeS 0 i exp
  | .storeSAbs2 i exp => .storeS 0 i exp
  | .storeSInd h i => .storeS h i 0
  | .vCopy i k => .vsOr i 0 k
  | .vClear i => .vvXor i i i
  | .vMergeZero i k => .vsMerge i 0 k
  | .vLeftOne i j => .vShiftLeft i j 0
  | .vRightOne i j => .vShiftRight i j 0
  | .vDoubleLeftOne i j => .vDoubleLeft i j 0
  | .vDoubleRightOne i j => .vDoubleRight i j 0
  | .vNeg i k => .vsSub i 0 k
  | .vFnormalize i k => .vsFadd i 0 k
  | .vFnegate i k => .vsFsub i 0 k
  | .vLoadOne i => .vLoad i 0
  | .vStoreOne j => .vStore j 0

end Instr

end Sys2Proof
end

