-- ==== Sys2Proof/WellFormed.lean ====
section
/-! DEFINITION. Which terms of the syntax are instructions of the listing: the constraints a field's type
does not say. -/

namespace Sys2Proof.Instr

/-- The constraints of spec/opcode_table.json that no mask expresses: `jk != 00` of CA (30 R131), `j != 0` of the
channel reads 033ij0 and 033ij1 (42 R257, R258), `jk <= 0o37` of the semaphore instructions (90 C5), and `j != 0` of
the second spellings that would coincide with another (30 R134). -/
def wellFormed : Instr → Bool
  | .ca j k => !(j == 0 && k == 0)
  | .aChanAddr _ j => j != 0
  | .aChanErr _ j => j != 0
  | .smTestSet jk => decide (jk.toNat ≤ 31)
  | .smClear jk => decide (jk.toNat ≤ 31)
  | .smSet jk => decide (jk.toNat ≤ 31)
  | .sSignOf2 _ j => j != 0
  | .sToggleSign2 _ j => j != 0
  | .sXnorSign2 _ j => j != 0
  | .sSetSign2 _ j => j != 0
  | _ => true

end Sys2Proof.Instr
end

