-- ==== Sys2Proof/Decode.lean ====
section
/-! DEFINITION. The decoder, total on any parcels, and the encoder, both from spec/30_encoding.md. -/

namespace Sys2Proof

/-- Why a decoder refuses its input. -/
inductive Reject where
  /-- Fewer parcels than the operation code needs (30 R123). -/
  | truncated
  /-- The first parcel matches no row of the listing (30 R129). -/
  | unlisted
  /-- Bit 2 of the i field of a two-parcel branch is 1 (30 R124). -/
  | branchBit
  /-- A three-parcel operation code with j or k not 0 (30 R123, D50). -/
  | threeParcelJk
  deriving DecidableEq, Repr

/-! ## Fields of the first parcel (30 R122) -/

/-- Bits 15:12. -/
def gField (p : Parcel) : BitVec 4 := p.extractLsb' 12 4
/-- Bits 11:9. -/
def hField (p : Parcel) : BitVec 3 := p.extractLsb' 9 3
/-- Bits 8:6. -/
def iField (p : Parcel) : BitVec 3 := p.extractLsb' 6 3
/-- Bits 5:3. -/
def jField (p : Parcel) : BitVec 3 := p.extractLsb' 3 3
/-- Bits 2:0. -/
def kField (p : Parcel) : BitVec 3 := p.extractLsb' 0 3
/-- Bits 5:0, one 6-bit number (30 R126). -/
def jkField (p : Parcel) : BitVec 6 := p.extractLsb' 0 6
/-- Bits 7:0, the high eight bits of a branch address (30 R124). -/
def ijkField (p : Parcel) : BitVec 8 := p.extractLsb' 0 8

/-- The parcels an instruction takes, from its operation code alone (30 R123). -/
def parcelCount (p : Parcel) : Nat :=
  match (gField p).toNat, (hField p).toNat with
  | 0, 6 => 2
  | 0, 7 => 2
  | 1, _ => 2
  | 2, 0 => 3
  | 2, 1 => 3
  | 4, 0 => 3
  | 4, 1 => 3
  | 8, _ => 3
  | 9, _ => 3
  | 10, _ => 3
  | 11, _ => 3
  | _, _ => 1

/-- `exp = n ‖ m` (30 R125, `OPEN(MN_ORDER)` at its recommended value; PRESUMED, log 3). -/
def expOf (m n : Parcel) : AWord := n ++ m

/-- A two-parcel branch: the target is `i[1:0] ‖ j ‖ k ‖ m`, and bit 2 of i must be 0 (30 R124). -/
def branchTo (p m : Parcel) (make : BitVec 24 → Instr) : Except Reject Instr :=
  if p.getLsbD 8 then .error .branchBit else .ok (make (ijkField p ++ m))

/-- A three-parcel instruction, whose j and k fields must be 0 (30 R123). -/
def threeParcel (p : Parcel) (made : Instr) : Except Reject Instr :=
  if jkField p == 0 then .ok made else .error .threeParcelJk

/-- An instruction whose further constraint is `c`; unlisted where it does not hold (30 R129). -/
def listedIf (c : Bool) (made : Instr) : Except Reject Instr :=
  if c then .ok made else .error .unlisted

/-! ## The operation codes, by their first two octal digits g (30 R128, R129, R131) -/

/-- Operation codes 000 to 007. -/
def decode00 (p m : Parcel) : Except Reject Instr :=
  match (hField p).toNat with
  | 0 => listedIf (iField p == 0 && jField p == 0 && kField p == 0) (.err)
  | 1 =>
    if iField p == 0 && jField p == 0 && kField p == 0 then .ok (.pass)
    else if iField p == 4 && jField p == 0 && kField p == 2 then .ok (.cipi)
    else if iField p == 4 && jField p == 0 && kField p == 5 then .ok (.cci)
    else if iField p == 4 && jField p == 0 && kField p == 6 then .ok (.eci)
    else if iField p == 4 && jField p == 0 && kField p == 7 then .ok (.dci)
    else if iField p == 5 && jField p == 0 && kField p == 1 then .ok (.disablePortA)
    else if iField p == 5 && jField p == 1 && kField p == 1 then .ok (.disablePortB)
    else if iField p == 5 && jField p == 2 && kField p == 1 then .ok (.disablePortD)
    else if iField p == 5 && jField p == 4 && kField p == 1 then .ok (.swapCheckBytes)
    else if iField p == 5 && jField p == 5 && kField p == 1 then .ok (.replaceCheckBits)
    else if iField p == 2 && kField p == 0 then .ok (.ci (jField p))
    else if iField p == 2 && kField p == 1 then .ok (.mc (jField p))
    else if iField p == 3 && kField p == 0 then .ok (.xa (jField p))
    else if iField p == 4 && kField p == 0 then .ok (.rt (jField p))
    else if iField p == 4 && kField p == 1 then .ok (.sip (jField p))
    else if iField p == 4 && kField p == 3 then .ok (.cln (jField p))
    else if iField p == 4 && kField p == 4 then .ok (.pci (jField p))
    else if iField p == 5 && kField p == 0 then .ok (.selectPerf (jField p))
    else if iField p == 6 && kField p == 1 then .ok (.ivc (jField p))
    else if iField p == 0 && jkField p != 0 then .ok (.ca (jField p) (kField p))
    else if iField p == 1 then .ok (.cl (jField p) (kField p))
    else .error .unlisted
  | 2 =>
    if iField p == 1 && jField p == 0 && kField p == 0 then .ok (.efi)
    else if iField p == 2 && jField p == 0 && kField p == 0 then .ok (.dfi)
    else if iField p == 3 && jField p == 0 && kField p == 0 then .ok (.eri)
    else if iField p == 4 && jField p == 0 && kField p == 0 then .ok (.dri)
    else if iField p == 5 && jField p == 0 && kField p == 0 then .ok (.dbm)
    else if iField p == 6 && jField p == 0 && kField p == 0 then .ok (.ebm)
    else if iField p == 7 && jField p == 0 && kField p == 0 then .ok (.cmr)
    else if iField p == 0 && jField p == 0 then .ok (.setVl (kField p))
    else .error .unlisted
  | 3 =>
    if iField p == 0 && kField p == 0 then .ok (.setVm (jField p))
    else if iField p == 4 && decide ((jkField p).toNat ≤ 31) then .ok (.smTestSet (jkField p))
    else if iField p == 6 && decide ((jkField p).toNat ≤ 31) then .ok (.smClear (jkField p))
    else if iField p == 7 && decide ((jkField p).toNat ≤ 31) then .ok (.smSet (jkField p))
    else .error .unlisted
  | 4 => listedIf (iField p == 0 && jField p == 0 && kField p == 0) (.ex)
  | 5 => listedIf (iField p == 0) (.jumpB (jkField p))
  | 6 => branchTo p m .jump
  | 7 => branchTo p m .returnJump
  | _ => .error .unlisted

/-- Operation codes 010 to 017. -/
def decode01 (p m : Parcel) : Except Reject Instr :=
  match (hField p).toNat with
  | 0 => branchTo p m .jaz
  | 1 => branchTo p m .jan
  | 2 => branchTo p m .jap
  | 3 => branchTo p m .jam
  | 4 => branchTo p m .jsz
  | 5 => branchTo p m .jsn
  | 6 => branchTo p m .jsp
  | 7 => branchTo p m .jsm
  | _ => .error .unlisted

/-- Operation codes 020 to 027. -/
def decode02 (p m n : Parcel) : Except Reject Instr :=
  match (hField p).toNat with
  | 0 => threeParcel p (.aExp (iField p) (expOf m n))
  | 1 => threeParcel p (.aExpNot (iField p) (expOf m n))
  | 2 => .ok (.aShort (iField p) (jkField p))
  | 3 =>
    if jField p == 0 && kField p == 1 then .ok (.aFromVl (iField p))
    else if kField p == 0 then .ok (.aFromS (iField p) (jField p))
    else .error .unlisted
  | 4 => .ok (.aFromB (iField p) (jkField p))
  | 5 => .ok (.bFromA (iField p) (jkField p))
  | 6 =>
    if kField p == 0 then .ok (.aPop (iField p) (jField p))
    else if kField p == 1 then .ok (.aParity (iField p) (jField p))
    else if kField p == 7 then .ok (.aFromSb (iField p) (jField p))
    else .error .unlisted
  | 7 =>
    if kField p == 0 then .ok (.aLzc (iField p) (jField p))
    else if kField p == 7 then .ok (.sbFromA (iField p) (jField p))
    else .error .unlisted
  | _ => .error .unlisted

/-- Operation codes 030 to 037. -/
def decode03 (p : Parcel) : Except Reject Instr :=
  match (hField p).toNat with
  | 0 => .ok (.aAdd (iField p) (jField p) (kField p))
  | 1 => .ok (.aSub (iField p) (jField p) (kField p))
  | 2 => .ok (.aMul (iField p) (jField p) (kField p))
  | 3 =>
    if jField p == 0 && kField p == 0 then .ok (.aChanInt (iField p))
    else if kField p == 0 && jField p != 0 then .ok (.aChanAddr (iField p) (jField p))
    else if kField p == 1 && jField p != 0 then .ok (.aChanErr (iField p) (jField p))
    else .error .unlisted
  | 4 => .ok (.loadB (iField p) (jkField p))
  | 5 => .ok (.storeB (iField p) (jkField p))
  | 6 => .ok (.loadT (iField p) (jkField p))
  | 7 => .ok (.storeT (iField p) (jkField p))
  | _ => .error .unlisted

/-- Operation codes 040 to 047. -/
def decode04 (p m n : Parcel) : Except Reject Instr :=
  match (hField p).toNat with
  | 0 => threeParcel p (.sExp (iField p) (expOf m n))
  | 1 => threeParcel p (.sExpNot (iField p) (expOf m n))
  | 2 => .ok (.sMaskRight (iField p) (jkField p))
  | 3 => .ok (.sMaskLeft (iField p) (jkField p))
  | 4 => .ok (.sAnd (iField p) (jField p) (kField p))
  | 5 => .ok (.sAndNot (iField p) (jField p) (kField p))
  | 6 => .ok (.sXor (iField p) (jField p) (kField p))
  | 7 => .ok (.sXnor (iField p) (jField p) (kField p))
  | _ => .error .unlisted

/-- Operation codes 050 to 057. -/
def decode05 (p : Parcel) : Except Reject Instr :=
  match (hField p).toNat with
  | 0 => .ok (.sMerge (iField p) (jField p) (kField p))
  | 1 => .ok (.sOr (iField p) (jField p) (kField p))
  | 2 => .ok (.s0ShiftLeft (iField p) (jkField p))
  | 3 => .ok (.s0ShiftRight (iField p) (jkField p))
  | 4 => .ok (.sShiftLeft (iField p) (jkField p))
  | 5 => .ok (.sShiftRight (iField p) (jkField p))
  | 6 => .ok (.sDoubleLeft (iField p) (jField p) (kField p))
  | 7 => .ok (.sDoubleRight (iField p) (jField p) (kField p))
  | _ => .error .unlisted

/-- Operation codes 060 to 067. -/
def decode06 (p : Parcel) : Except Reject Instr :=
  match (hField p).toNat with
  | 0 => .ok (.sAdd (iField p) (jField p) (kField p))
  | 1 => .ok (.sSub (iField p) (jField p) (kField p))
  | 2 => .ok (.sFadd (iField p) (jField p) (kField p))
  | 3 => .ok (.sFsub (iField p) (jField p) (kField p))
  | 4 => .ok (.sFmul (iField p) (jField p) (kField p))
  | 5 => .ok (.sFmulH (iField p) (jField p) (kField p))
  | 6 => .ok (.sFmulR (iField p) (jField p) (kField p))
  | 7 => .ok (.sRecipIter (iField p) (jField p) (kField p))
  | _ => .error .unlisted

/-- Operation codes 070 to 077. -/
def decode07 (p : Parcel) : Except Reject Instr :=
  match (hField p).toNat with
  | 0 => listedIf (kField p == 0) (.sRecip (iField p) (jField p))
  | 1 =>
    if jField p == 3 && kField p == 0 then .ok (.sThreeQuarters (iField p))
    else if jField p == 4 && kField p == 0 then .ok (.sHalf (iField p))
    else if jField p == 5 && kField p == 0 then .ok (.sOne (iField p))
    else if jField p == 6 && kField p == 0 then .ok (.sTwo (iField p))
    else if jField p == 7 && kField p == 0 then .ok (.sFour (iField p))
    else if jField p == 0 then .ok (.sFromA (iField p) (kField p))
    else if jField p == 1 then .ok (.sFromASigned (iField p) (kField p))
    else if jField p == 2 then .ok (.sFloatFromA (iField p) (kField p))
    else .error .unlisted
  | 2 =>
    if jField p == 0 && kField p == 0 then .ok (.sFromRt (iField p))
    else if jField p == 0 && kField p == 2 then .ok (.sFromSm (iField p))
    else if kField p == 3 then .ok (.sFromSt (iField p) (jField p))
    else .error .unlisted
  | 3 =>
    if jField p == 0 && kField p == 0 then .ok (.sFromVm (iField p))
    else if jField p == 0 && kField p == 1 then .ok (.sFromSr0 (iField p))
    else if jField p == 0 && kField p == 2 then .ok (.smFromS (iField p))
    else if jField p == 1 && kField p == 1 then .ok (.readPerf (iField p))
    else if jField p == 2 && kField p == 1 then .ok (.incPerfUpper (iField p))
    else if jField p == 3 && kField p == 1 then .ok (.clearMaint (iField p))
    else if jField p == 6 && kField p == 1 then .ok (.incPerfLower (iField p))
    else if kField p == 3 then .ok (.stFromS (iField p) (jField p))
    else .error .unlisted
  | 4 => .ok (.sFromT (iField p) (jkField p))
  | 5 => .ok (.tFromS (iField p) (jkField p))
  | 6 => .ok (.sFromV (iField p) (jField p) (kField p))
  | 7 => .ok (.vFromS (iField p) (jField p) (kField p))
  | _ => .error .unlisted

/-- Operation codes 10h. -/
def decode10 (p m n : Parcel) : Except Reject Instr :=
  threeParcel p (.loadA (hField p) (iField p) (expOf m n))

/-- Operation codes 11h. -/
def decode11 (p m n : Parcel) : Except Reject Instr :=
  threeParcel p (.storeA (hField p) (iField p) (expOf m n))

/-- Operation codes 12h. -/
def decode12 (p m n : Parcel) : Except Reject Instr :=
  threeParcel p (.loadS (hField p) (iField p) (expOf m n))

/-- Operation codes 13h. -/
def decode13 (p m n : Parcel) : Except Reject Instr :=
  threeParcel p (.storeS (hField p) (iField p) (expOf m n))

/-- Operation codes 140 to 147. -/
def decode14 (p : Parcel) : Except Reject Instr :=
  match (hField p).toNat with
  | 0 => .ok (.vsAnd (iField p) (jField p) (kField p))
  | 1 => .ok (.vvAnd (iField p) (jField p) (kField p))
  | 2 => .ok (.vsOr (iField p) (jField p) (kField p))
  | 3 => .ok (.vvOr (iField p) (jField p) (kField p))
  | 4 => .ok (.vsXor (iField p) (jField p) (kField p))
  | 5 => .ok (.vvXor (iField p) (jField p) (kField p))
  | 6 => .ok (.vsMerge (iField p) (jField p) (kField p))
  | 7 => .ok (.vvMerge (iField p) (jField p) (kField p))
  | _ => .error .unlisted

/-- Operation codes 150 to 157. -/
def decode15 (p : Parcel) : Except Reject Instr :=
  match (hField p).toNat with
  | 0 => .ok (.vShiftLeft (iField p) (jField p) (kField p))
  | 1 => .ok (.vShiftRight (iField p) (jField p) (kField p))
  | 2 => .ok (.vDoubleLeft (iField p) (jField p) (kField p))
  | 3 => .ok (.vDoubleRight (iField p) (jField p) (kField p))
  | 4 => .ok (.vsAdd (iField p) (jField p) (kField p))
  | 5 => .ok (.vvAdd (iField p) (jField p) (kField p))
  | 6 => .ok (.vsSub (iField p) (jField p) (kField p))
  | 7 => .ok (.vvSub (iField p) (jField p) (kField p))
  | _ => .error .unlisted

/-- Operation codes 160 to 167. -/
def decode16 (p : Parcel) : Except Reject Instr :=
  match (hField p).toNat with
  | 0 => .ok (.vsFmul (iField p) (jField p) (kField p))
  | 1 => .ok (.vvFmul (iField p) (jField p) (kField p))
  | 2 => .ok (.vsFmulH (iField p) (jField p) (kField p))
  | 3 => .ok (.vvFmulH (iField p) (jField p) (kField p))
  | 4 => .ok (.vsFmulR (iField p) (jField p) (kField p))
  | 5 => .ok (.vvFmulR (iField p) (jField p) (kField p))
  | 6 => .ok (.vsImul32 (iField p) (jField p) (kField p))
  | 7 => .ok (.vvRecipIter (iField p) (jField p) (kField p))
  | _ => .error .unlisted

/-- Operation codes 170 to 177. -/
def decode17 (p : Parcel) : Except Reject Instr :=
  match (hField p).toNat with
  | 0 => .ok (.vsFadd (iField p) (jField p) (kField p))
  | 1 => .ok (.vvFadd (iField p) (jField p) (kField p))
  | 2 => .ok (.vsFsub (iField p) (jField p) (kField p))
  | 3 => .ok (.vvFsub (iField p) (jField p) (kField p))
  | 4 =>
    if kField p == 0 then .ok (.vRecip (iField p) (jField p))
    else if kField p == 1 then .ok (.vPop (iField p) (jField p))
    else if kField p == 2 then .ok (.vParity (iField p) (jField p))
    else .error .unlisted
  | 5 =>
    if iField p == 0 && kField p == 0 then .ok (.vmZero (jField p))
    else if iField p == 0 && kField p == 1 then .ok (.vmNonzero (jField p))
    else if iField p == 0 && kField p == 2 then .ok (.vmPlus (jField p))
    else if iField p == 0 && kField p == 3 then .ok (.vmMinus (jField p))
    else if kField p == 4 then .ok (.vmZeroIdx (iField p) (jField p))
    else if kField p == 5 then .ok (.vmNonzeroIdx (iField p) (jField p))
    else if kField p == 6 then .ok (.vmPlusIdx (iField p) (jField p))
    else if kField p == 7 then .ok (.vmMinusIdx (iField p) (jField p))
    else .error .unlisted
  | 6 =>
    if jField p == 0 then .ok (.vLoad (iField p) (kField p))
    else if jField p == 1 then .ok (.vGather (iField p) (kField p))
    else .error .unlisted
  | 7 =>
    if iField p == 0 then .ok (.vStore (jField p) (kField p))
    else if iField p == 1 then .ok (.vScatter (jField p) (kField p))
    else .error .unlisted
  | _ => .error .unlisted

/-- The instruction of three parcels, of which a shorter instruction reads only the first ones (30 R136). -/
def decodeParcels (p m n : Parcel) : Except Reject Instr :=
  match (gField p).toNat with
  | 0 => decode00 p m
  | 1 => decode01 p m
  | 2 => decode02 p m n
  | 3 => decode03 p
  | 4 => decode04 p m n
  | 5 => decode05 p
  | 6 => decode06 p
  | 7 => decode07 p
  | 8 => decode10 p m n
  | 9 => decode11 p m n
  | 10 => decode12 p m n
  | 11 => decode13 p m n
  | 12 => decode14 p
  | 13 => decode15 p
  | 14 => decode16 p
  | _ => decode17 p

/-- Decode the first instruction of a list of parcels (30 R123, R136). -/
def decode : List Parcel → Except Reject Instr
  | [] => .error .truncated
  | p :: rest =>
    if rest.length + 1 < parcelCount p then .error .truncated
    else decodeParcels p (rest.getD 0 0) (rest.getD 1 0)

/-- Why a first parcel is no row of the listing, whatever follows it; `none` where it is one (30 R129). -/
def unlistedFirst (p : Parcel) : Option Reject :=
  match decodeParcels p 0 0 with
  | .ok _ => none
  | .error why => some why

/-! ## Bytes

The hardware addresses words, not bytes (20 R85); the list of bytes holds a parcel's high byte first, as the words of
Machine/Memory.lean do (DESIGN CHOICE, log 5). -/

/-- The two bytes of a parcel, high byte first. -/
def parcelBytes (p : Parcel) : List Byte := [p.extractLsb' 8 8, p.extractLsb' 0 8]

/-- The parcels of a list of bytes; an odd byte at the end is no parcel. -/
def parcelsOfBytes : List Byte → List Parcel
  | hi :: lo :: rest => (hi ++ lo) :: parcelsOfBytes rest
  | _ => []

/-- The decoder on bytes, total on any bytes. -/
def decodeBytes (bs : List Byte) : Except Reject Instr := decode (parcelsOfBytes bs)

/-- The parcel that starts at bit `16 * q` of a number laid out as spec/opcode_table.json numbers its bits. -/
def tableParcel (nbits w q : Nat) : Parcel := BitVec.ofNat 16 ((w % 2 ^ nbits) / 2 ^ (16 * q))

/-- What the decoder reads from an instruction whose bits are `w`, bits above `nbits` being 0. -/
def decodeTableWord (nbits w : Nat) : Option Instr :=
  match decodeBytes (([0, 1, 2].map (tableParcel nbits w)).flatMap parcelBytes) with
  | .ok i => some i
  | .error _ => none

/-! ## The encoder -/

/-- A first parcel from its fields (30 R122). -/
def pack (g : BitVec 4) (h i j k : BitVec 3) : Parcel := g ++ h ++ i ++ j ++ k

/-- A first parcel whose j and k fields are one number (30 R126). -/
def packJk (g : BitVec 4) (h i : BitVec 3) (jk : BitVec 6) : Parcel := g ++ h ++ i ++ jk

/-- The first parcel of a two-parcel branch: bit 2 of i is 0 and the rest holds target bits 23:16 (30 R124). -/
def branchParcel (g : BitVec 4) (h : BitVec 3) (target : BitVec 24) : Parcel :=
  g ++ h ++ 0#1 ++ target.extractLsb' 16 8

/-- Parcel m of a branch (30 R124). -/
def branchLow (target : BitVec 24) : Parcel := target.extractLsb' 0 16

/-- Parcel m of a 32-bit value (30 R125). -/
def expLow (exp : AWord) : Parcel := exp.extractLsb' 0 16

/-- Parcel n of a 32-bit value (30 R125). -/
def expHigh (exp : AWord) : Parcel := exp.extractLsb' 16 16

/-- The parcels of an instruction, from the pattern of its row. -/
def encode : Instr → List Parcel
  | .err => [pack 0 0 0 0 0]
  | .ca j k => [pack 0 1 0 j k]
  | .pass => [pack 0 1 0 0 0]
  | .cl j k => [pack 0 1 1 j k]
  | .ci j => [pack 0 1 2 j 0]
  | .mc j => [pack 0 1 2 j 1]
  | .xa j => [pack 0 1 3 j 0]
  | .rt j => [pack 0 1 4 j 0]
  | .sip j => [pack 0 1 4 j 1]
  | .cipi => [pack 0 1 4 0 2]
  | .cln j => [pack 0 1 4 j 3]
  | .pci j => [pack 0 1 4 j 4]
  | .cci => [pack 0 1 4 0 5]
  | .eci => [pack 0 1 4 0 6]
  | .dci => [pack 0 1 4 0 7]
  | .selectPerf j => [pack 0 1 5 j 0]
  | .disablePortA => [pack 0 1 5 0 1]
  | .disablePortB => [pack 0 1 5 1 1]
  | .disablePortD => [pack 0 1 5 2 1]
  | .swapCheckBytes => [pack 0 1 5 4 1]
  | .replaceCheckBits => [pack 0 1 5 5 1]
  | .ivc j => [pack 0 1 6 j 1]
  | .setVl k => [pack 0 2 0 0 k]
  | .efi => [pack 0 2 1 0 0]
  | .dfi => [pack 0 2 2 0 0]
  | .eri => [pack 0 2 3 0 0]
  | .dri => [pack 0 2 4 0 0]
  | .dbm => [pack 0 2 5 0 0]
  | .ebm => [pack 0 2 6 0 0]
  | .cmr => [pack 0 2 7 0 0]
  | .setVm j => [pack 0 3 0 j 0]
  | .smTestSet jk => [packJk 0 3 4 jk]
  | .smClear jk => [packJk 0 3 6 jk]
  | .smSet jk => [packJk 0 3 7 jk]
  | .ex => [pack 0 4 0 0 0]
  | .jumpB jk => [packJk 0 5 0 jk]
  | .jump target => [branchParcel 0 6 target, branchLow target]
  | .returnJump target => [branchParcel 0 7 target, branchLow target]
  | .jaz target => [branchParcel 1 0 target, branchLow target]
  | .jan target => [branchParcel 1 1 target, branchLow target]
  | .jap target => [branchParcel 1 2 target, branchLow target]
  | .jam target => [branchParcel 1 3 target, branchLow target]
  | .jsz target => [branchParcel 1 4 target, branchLow target]
  | .jsn target => [branchParcel 1 5 target, branchLow target]
  | .jsp target => [branchParcel 1 6 target, branchLow target]
  | .jsm target => [branchParcel 1 7 target, branchLow target]
  | .aExp i exp => [pack 2 0 i 0 0, expLow exp, expHigh exp]
  | .aExpNot i exp => [pack 2 1 i 0 0, expLow exp, expHigh exp]
  | .aShort i jk => [packJk 2 2 i jk]
  | .aFromS i j => [pack 2 3 i j 0]
  | .aFromVl i => [pack 2 3 i 0 1]
  | .aFromB i jk => [packJk 2 4 i jk]
  | .bFromA i jk => [packJk 2 5 i jk]
  | .aPop i j => [pack 2 6 i j 0]
  | .aParity i j => [pack 2 6 i j 1]
  | .aFromSb i j => [pack 2 6 i j 7]
  | .aLzc i j => [pack 2 7 i j 0]
  | .sbFromA i j => [pack 2 7 i j 7]
  | .aAdd i j k => [pack 3 0 i j k]
  | .aSub i j k => [pack 3 1 i j k]
  | .aMul i j k => [pack 3 2 i j k]
  | .aChanInt i => [pack 3 3 i 0 0]
  | .aChanAddr i j => [pack 3 3 i j 0]
  | .aChanErr i j => [pack 3 3 i j 1]
  | .loadB i jk => [packJk 3 4 i jk]
  | .storeB i jk => [packJk 3 5 i jk]
  | .loadT i jk => [packJk 3 6 i jk]
  | .storeT i jk => [packJk 3 7 i jk]
  | .sExp i exp => [pack 4 0 i 0 0, expLow exp, expHigh exp]
  | .sExpNot i exp => [pack 4 1 i 0 0, expLow exp, expHigh exp]
  | .sMaskRight i jk => [packJk 4 2 i jk]
  | .sMaskLeft i jk => [packJk 4 3 i jk]
  | .sAnd i j k => [pack 4 4 i j k]
  | .sAndNot i j k => [pack 4 5 i j k]
  | .sXor i j k => [pack 4 6 i j k]
  | .sXnor i j k => [pack 4 7 i j k]
  | .sMerge i j k => [pack 5 0 i j k]
  | .sOr i j k => [pack 5 1 i j k]
  | .s0ShiftLeft i jk => [packJk 5 2 i jk]
  | .s0ShiftRight i jk => [packJk 5 3 i jk]
  | .sShiftLeft i jk => [packJk 5 4 i jk]
  | .sShiftRight i jk => [packJk 5 5 i jk]
  | .sDoubleLeft i j k => [pack 5 6 i j k]
  | .sDoubleRight i j k => [pack 5 7 i j k]
  | .sAdd i j k => [pack 6 0 i j k]
  | .sSub i j k => [pack 6 1 i j k]
  | .sFadd i j k => [pack 6 2 i j k]
  | .sFsub i j k => [pack 6 3 i j k]
  | .sFmul i j k => [pack 6 4 i j k]
  | .sFmulH i j k => [pack 6 5 i j k]
  | .sFmulR i j k => [pack 6 6 i j k]
  | .sRecipIter i j k => [pack 6 7 i j k]
  | .sRecip i j => [pack 7 0 i j 0]
  | .sFromA i k => [pack 7 1 i 0 k]
  | .sFromASigned i k => [pack 7 1 i 1 k]
  | .sFloatFromA i k => [pack 7 1 i 2 k]
  | .sThreeQuarters i => [pack 7 1 i 3 0]
  | .sHalf i => [pack 7 1 i 4 0]
  | .sOne i => [pack 7 1 i 5 0]
  | .sTwo i => [pack 7 1 i 6 0]
  | .sFour i => [pack 7 1 i 7 0]
  | .sFromRt i => [pack 7 2 i 0 0]
  | .sFromSm i => [pack 7 2 i 0 2]
  | .sFromSt i j => [pack 7 2 i j 3]
  | .sFromVm i => [pack 7 3 i 0 0]
  | .sFromSr0 i => [pack 7 3 i 0 1]
  | .smFromS i => [pack 7 3 i 0 2]
  | .stFromS i j => [pack 7 3 i j 3]
  | .readPerf i => [pack 7 3 i 1 1]
  | .incPerfUpper i => [pack 7 3 i 2 1]
  | .clearMaint i => [pack 7 3 i 3 1]
  | .incPerfLower i => [pack 7 3 i 6 1]
  | .sFromT i jk => [packJk 7 4 i jk]
  | .tFromS i jk => [packJk 7 5 i jk]
  | .sFromV i j k => [pack 7 6 i j k]
  | .vFromS i j k => [pack 7 7 i j k]
  | .loadA h i exp => [pack 8 h i 0 0, expLow exp, expHigh exp]
  | .storeA h i exp => [pack 9 h i 0 0, expLow exp, expHigh exp]
  | .loadS h i exp => [pack 10 h i 0 0, expLow exp, expHigh exp]
  | .storeS h i exp => [pack 11 h i 0 0, expLow exp, expHigh exp]
  | .vsAnd i j k => [pack 12 0 i j k]
  | .vvAnd i j k => [pack 12 1 i j k]
  | .vsOr i j k => [pack 12 2 i j k]
  | .vvOr i j k => [pack 12 3 i j k]
  | .vsXor i j k => [pack 12 4 i j k]
  | .vvXor i j k => [pack 12 5 i j k]
  | .vsMerge i j k => [pack 12 6 i j k]
  | .vvMerge i j k => [pack 12 7 i j k]
  | .vShiftLeft i j k => [pack 13 0 i j k]
  | .vShiftRight i j k => [pack 13 1 i j k]
  | .vDoubleLeft i j k => [pack 13 2 i j k]
  | .vDoubleRight i j k => [pack 13 3 i j k]
  | .vsAdd i j k => [pack 13 4 i j k]
  | .vvAdd i j k => [pack 13 5 i j k]
  | .vsSub i j k => [pack 13 6 i j k]
  | .vvSub i j k => [pack 13 7 i j k]
  | .vsFmul i j k => [pack 14 0 i j k]
  | .vvFmul i j k => [pack 14 1 i j k]
  | .vsFmulH i j k => [pack 14 2 i j k]
  | .vvFmulH i j k => [pack 14 3 i j k]
  | .vsFmulR i j k => [pack 14 4 i j k]
  | .vvFmulR i j k => [pack 14 5 i j k]
  | .vsImul32 i j k => [pack 14 6 i j k]
  | .vvRecipIter i j k => [pack 14 7 i j k]
  | .vsFadd i j k => [pack 15 0 i j k]
  | .vvFadd i j k => [pack 15 1 i j k]
  | .vsFsub i j k => [pack 15 2 i j k]
  | .vvFsub i j k => [pack 15 3 i j k]
  | .vRecip i j => [pack 15 4 i j 0]
  | .vPop i j => [pack 15 4 i j 1]
  | .vParity i j => [pack 15 4 i j 2]
  | .vmZero j => [pack 15 5 0 j 0]
  | .vmNonzero j => [pack 15 5 0 j 1]
  | .vmPlus j => [pack 15 5 0 j 2]
  | .vmMinus j => [pack 15 5 0 j 3]
  | .vmZeroIdx i j => [pack 15 5 i j 4]
  | .vmNonzeroIdx i j => [pack 15 5 i j 5]
  | .vmPlusIdx i j => [pack 15 5 i j 6]
  | .vmMinusIdx i j => [pack 15 5 i j 7]
  | .vLoad i k => [pack 15 6 i 0 k]
  | .vGather i k => [pack 15 6 i 1 k]
  | .vStore j k => [pack 15 7 0 j k]
  | .vScatter j k => [pack 15 7 1 j k]
  | .sipi => [pack 0 1 4 0 1]
  | .setVlOne => [pack 0 2 0 0 0]
  | .clearVm => [pack 0 3 0 0 0]
  | .aCopy i k => [pack 3 0 i 0 k]
  | .aInc i j => [pack 3 0 i j 0]
  | .aMinusOne i => [pack 3 1 i 0 0]
  | .aNeg i k => [pack 3 1 i 0 k]
  | .aDec i j => [pack 3 1 i j 0]
  | .loadBZero i jk => [packJk 3 4 i jk]
  | .storeBZero i jk => [packJk 3 5 i jk]
  | .loadTZero i jk => [packJk 3 6 i jk]
  | .storeTZero i jk => [packJk 3 7 i jk]
  | .sZeroesLeft i jk => [packJk 4 2 i jk]
  | .sIntOne i => [pack 4 2 i 7 7]
  | .sMinusOne i => [pack 4 2 i 0 0]
  | .sZeroesRight i jk => [packJk 4 3 i jk]
  | .sClear i => [pack 4 3 i 0 0]
  | .sSignOf i j => [pack 4 4 i j 0]
  | .sSignOf2 i j => [pack 4 4 i j 0]
  | .sClearSign i j => [pack 4 5 i j 0]
  | .sToggleSign i j => [pack 4 6 i j 0]
  | .sToggleSign2 i j => [pack 4 6 i j 0]
  | .sNot i k => [pack 4 7 i 0 k]
  | .sXnorSign i j => [pack 4 7 i j 0]
  | .sXnorSign2 i j => [pack 4 7 i j 0]
  | .sNotSign i => [pack 4 7 i 0 0]
  | .sMergeSign i j => [pack 5 0 i j 0]
  | .sCopy i k => [pack 5 1 i 0 k]
  | .sSetSign i j => [pack 5 1 i j 0]
  | .sSetSign2 i j => [pack 5 1 i j 0]
  | .sSignBit i => [pack 5 1 i 0 0]
  | .sDoubleLeftOne i j => [pack 5 6 i j 0]
  | .sLeftByA i k => [pack 5 6 i 0 k]
  | .sDoubleRightOne i j => [pack 5 7 i j 0]
  | .sRightByA i k => [pack 5 7 i 0 k]
  | .sNeg i k => [pack 6 1 i 0 k]
  | .sFnormalize i k => [pack 6 2 i 0 k]
  | .sFnegate i k => [pack 6 3 i 0 k]
  | .vClearElement i k => [pack 7 7 i 0 k]
  | .loadAAbs i exp => [pack 8 0 i 0 0, expLow exp, expHigh exp]
  | .loadAAbs2 i exp => [pack 8 0 i 0 0, expLow exp, expHigh exp]
  | .loadAInd h i => [pack 8 h i 0 0, 0, 0]
  | .storeAAbs i exp => [pack 9 0 i 0 0, expLow exp, expHigh exp]
  | .storeAAbs2 i exp => [pack 9 0 i 0 0, expLow exp, expHigh exp]
  | .storeAInd h i => [pack 9 h i 0 0, 0, 0]
  | .loadSAbs i exp => [pack 10 0 i 0 0, expLow exp, expHigh exp]
  | .loadSAbs2 i exp => [pack 10 0 i 0 0, expLow exp, expHigh exp]
  | .loadSInd h i => [pack 10 h i 0 0, 0, 0]
  | .storeSAbs i exp => [pack 11 0 i 0 0, expLow exp, expHigh exp]
  | .storeSAbs2 i exp => [pack 11 0 i 0 0, expLow exp, expHigh exp]
  | .storeSInd h i => [pack 11 h i 0 0, 0, 0]
  | .vCopy i k => [pack 12 2 i 0 k]
  | .vClear i => [pack 12 5 i i i]
  | .vMergeZero i k => [pack 12 6 i 0 k]
  | .vLeftOne i j => [pack 13 0 i j 0]
  | .vRightOne i j => [pack 13 1 i j 0]
  | .vDoubleLeftOne i j => [pack 13 2 i j 0]
  | .vDoubleRightOne i j => [pack 13 3 i j 0]
  | .vNeg i k => [pack 13 6 i 0 k]
  | .vFnormalize i k => [pack 15 0 i 0 k]
  | .vFnegate i k => [pack 15 2 i 0 k]
  | .vLoadOne i => [pack 15 6 i 0 0]
  | .vStoreOne j => [pack 15 7 0 j 0]

/-- The parcels an instruction takes (30 R123). -/
def Instr.parcels (i : Instr) : Nat := (encode i).length

end Sys2Proof
end

