-- ==== Sys2Proof/Machine/State.lean ====
section
/-! DEFINITION. The state of one CPU and of what it shares with the rest of the system, as plain data
(spec/10_state.md), the reasons a step can stop, and the state after reset. -/

namespace Sys2Proof.Machine

/-- Why the machine stops with a fault. -/
inductive Fault where
  /-- A reference to an absolute address at or above MEMWORDS, raised by every memory operation (20 R82). Safe. -/
  | memoryAbsent
  /-- A read of a memory word that nothing has written, raised by every memory read and the fetch (70 R552). Safe. -/
  | memoryNoValue
  deriving DecidableEq, Repr

/-- Why a step has no meaning: each is a `refuse` of the spec. -/
inductive Refusal where
  /-- An instruction without a meaning in this model, by the mnemonic of spec/opcode_table.json. Safe. -/
  | notModelled (mnemonic : String)
  /-- The fetched parcels are no instruction of the listing, raised by the step (30 R129). Safe. -/
  | unlisted (why : Reject)
  /-- A data reference outside the limit with IOR = 0, raised by every data reference (20 R87). Safe. -/
  | operandRange
  /-- A shared-register or semaphore instruction with CLN 0 or above NCLUSTERS (40 R160 b). Safe. -/
  | noCluster
  /-- SIP or IVC naming a CPU number at or above NCPU (40 R169, R189). Safe. -/
  | noSuchCpu
  /-- A channel instruction naming a number that is no configured channel (40 R160 d). Safe. -/
  | noSuchChannel
  /-- A block transfer with a count above 64 (42 R263). Safe. -/
  | blockCount
  /-- 152 or 153 with i = j (46 R421, R422). Safe. -/
  | doubleShiftInPlace
  /-- 152 or 153 with a count of 64 or more (46 R421, R422). Safe. -/
  | doubleShiftCount
  /-- 175ij4 to 175ij7 with i = j (47 R466). Safe. -/
  | compressedIndexInPlace
  /-- A loaded package with VL outside 1 to 64, raised by the exchange (60 R505). Safe. -/
  | vlOutOfRange
  /-- A loaded package with MM = 0 and FLAGS not 0, raised by the exchange (60 R524). Safe. -/
  | flagsPending
  /-- A package that reaches beyond memory, raised by the exchange (60 R503). Safe. -/
  | packageBeyondMemory
  /-- A fetch of a word stored into since the last exchange, raised by the step (20 R108). Safe. -/
  | staleInstruction
  /-- The five instructions that set a maintenance mode, in monitor mode (40 R183 to R187). Safe. -/
  | maintenanceMode
  deriving DecidableEq, Repr

/-- The flags of an exchange package, by the names of 10 R32. -/
structure Flags where
  dl : Bool
  fpe : Bool
  ore : Bool
  pci : Bool
  icp : Bool
  ioi : Bool
  me : Bool
  eex : Bool
  nex : Bool
  pre : Bool
  mcu : Bool
  deriving DecidableEq, Repr

/-- The mode bits of an exchange package: the five named ones of 10 R33 and the seven without a name. -/
structure Modes where
  mm : Bool
  sei : Bool
  bdm : Bool
  ifp : Bool
  ior : Bool
  rest : BitVec 7
  deriving DecidableEq, Repr

/-- The memory-error report fields of an exchange package (10 R39). -/
structure ErrorReport where
  syndrome : BitVec 8
  mea : BitVec 8
  meaContinued : BitVec 2
  errorType : BitVec 2
  port : BitVec 3
  readMode : BitVec 2
  deriving DecidableEq, Repr

/-- The maintenance modes of 10 R52. -/
structure Maintenance where
  portA : Bool
  portB : Bool
  portD : Bool
  swapCheckBytes : Bool
  replaceCheckBits : Bool
  deriving DecidableEq, Repr

/-- The shared registers of one cluster (10 R40 to R42); bit n of `sm` is semaphore n. -/
structure Cluster where
  sb : Vector AWord 8
  st : Vector Word 8
  sm : BitVec 32
  deriving DecidableEq, Repr

/-- One channel (10 R50, 60 R532). -/
structure Channel where
  ca : AWord
  cl : AWord
  int : Bool
  err : Bool
  active : Bool
  masterClear : Bool
  readyHeld : Bool
  deriving DecidableEq, Repr

/-- What the JS logic holds of each CPU (10 R47, R38). -/
structure ProcStatus where
  mm : Bool
  sei : Bool
  ws : Bool
  cln : BitVec 6
  deriving DecidableEq, Repr

/-- A write of a shared register in flight, to the cluster it was issued to (40 R160 c, R171). -/
inductive SharedWrite where
  | sb (cluster : Fin Config.maxClusters) (j : BitVec 3) (v : AWord)
  | st (cluster : Fin Config.maxClusters) (j : BitVec 3) (v : Word)
  | semaphore (cluster : Fin Config.maxClusters) (n : Fin 32) (v : Bool)
  | semaphores (cluster : Fin Config.maxClusters) (v : BitVec 32)
  deriving DecidableEq, Repr

/-- What an instruction does to a channel (40 R162 to R166). -/
inductive ChannelCommand where
  | setCurrent (v : AWord)
  | setLimit (v : AWord)
  | clear
  | masterClear
  deriving DecidableEq, Repr

/-- What the other agents do between the CPU's own actions (log 21). -/
inductive Event where
  /-- The oldest queued memory write of a section is performed (20 R105). -/
  | perform (sec : Fin 8)
  /-- The oldest shared-register write of this CPU is delivered (20 R106). -/
  | deliver
  /-- The RTC advances (40 R168, 70 R561 e). -/
  | rtcAdvance (by_ : Word)
  /-- The programmable clock raises its request, if enabled (60 R526). -/
  | clockRequest
  /-- The cache loses a line (20 R99). -/
  | lineLost (a : Nat)
  /-- A cache-invalidate request for this CPU is carried out (40 R189). -/
  | cacheInvalidated
  /-- An active channel moves one word; an input channel stores `w` (60 R531). -/
  | channelWord (n : Fin 64) (w : Word)
  /-- An active channel finishes, or stops on an error (60 R531). -/
  | channelDone (n : Fin 64) (err : Bool)
  /-- The device of an input channel sets ready-held (60 R532). -/
  | deviceReady (n : Fin 64)
  /-- Another CPU stores a word at an absolute address (20 R95). -/
  | peerStore (a : AWord) (w : Word)
  /-- A shared-register write or a test and set of another CPU takes effect (20 R106, 40 R199). -/
  | peerShared (w : SharedWrite)
  /-- Another CPU loads the RTC (40 R168). -/
  | peerClock (v : Word)
  /-- Another CPU commands a channel (40 R162 to R166). -/
  | peerChannel (n : Fin 64) (c : ChannelCommand)
  /-- Another CPU sends CPU n an interprocessor interrupt request (40 R169). -/
  | peerInterrupt (n : Fin 32)
  /-- CPU n, not this one, clears its interprocessor interrupt request (40 R170). -/
  | peerInterruptCleared (n : Fin 32)
  /-- Another CPU sends CPU n a cache-invalidate request (40 R189). -/
  | peerInvalidate (n : Fin 32)
  /-- The cache-invalidate request for CPU n, not this one, is carried out (40 R189). -/
  | peerInvalidated (n : Fin 32)
  /-- The status of CPU n, not this one, changes (10 R47). -/
  | peerStatus (n : Fin 32) (st : ProcStatus)
  deriving DecidableEq, Repr

/-- The three backplanes, each with one of the numbers of processor modules it can hold (00 R2, 20 R81, 90 C2). -/
inductive Backplane where
  /-- Two memory modules and 1 or 2 processor modules, one more than the argument. -/
  | twoByTwo (above : Fin 2)
  /-- Four memory modules and 1 to 4 processor modules, one more than the argument. -/
  | fourByFour (above : Fin 4)
  /-- Eight memory modules and 4 to 8 processor modules, four more than the argument. -/
  | eightByEight (above : Fin 5)
  deriving DecidableEq, Repr

/-- The kinds of memory module: 256K x 16 chips in half or all places, 1M x 16 chips in half or all (20 R81). -/
inductive MemoryModule where
  | mem16
  | mem32
  | mem64
  | mem128
  deriving DecidableEq, Repr

/-- What 00 R11 leaves to the system and a run never changes (log 1). A backplane and a kind of memory module are a row
and a column of Table 5, so that every system is one of that table (20 R81). -/
structure System where
  /-- The backplane, with its processor modules. -/
  backplane : Backplane
  /-- The kind of all its memory modules. -/
  memory : MemoryModule
  /-- `cfg.configured_channels` among those of the modules present, bit n for channel number n + 0o20 (60 R529). -/
  channels : BitVec 64
  deriving DecidableEq, Repr

/-- The machine: one CPU, what all CPUs share, and the model's own four fields (INVENTORY.md, State). -/
structure State where
  /-- A0 to A7 (10 R20). -/
  a : Vector AWord 8
  /-- S0 to S7 (10 R21). -/
  s : Vector Word 8
  /-- B00 to B77 (10 R22). -/
  b : Vector AWord 64
  /-- T00 to T77 (10 R23). -/
  t : Vector Word 64
  /-- V0 to V7, 64 elements each (10 R24). -/
  v : Vector (Vector Word 64) 8
  /-- Vector length (10 R25). -/
  vl : BitVec 7
  /-- Vector mask (10 R26). -/
  vm : Word
  /-- Program address register (10 R27). -/
  p : BitVec 24
  /-- Instruction base address (10 R29). -/
  iba : BitVec 22
  /-- Instruction limit address (10 R29). -/
  ila : BitVec 22
  /-- Data base address (10 R30). -/
  dba : BitVec 22
  /-- Data limit address (10 R30). -/
  dla : BitVec 22
  /-- Exchange address register (10 R31). -/
  xa : BitVec 10
  /-- FLAGS (10 R32, 60 R524). -/
  flags : Flags
  /-- MODES (10 R33). -/
  modes : Modes
  /-- Cache enable (10 R34). -/
  ce : Bool
  /-- Cluster number (10 R35). -/
  cln : BitVec 6
  /-- Processor number, constant (10 R36). -/
  pn : BitVec 5
  /-- Vector not used: the value drawn by the last exchange (10 R37, log 44). -/
  vnu : Bool
  /-- Waiting for semaphore (10 R38). -/
  ws : Bool
  /-- The semaphore this CPU holds issue on, as the test and set logic tracks it (10 R43, 40 R199, log 49). -/
  held : Option (Fin 32)
  /-- Memory-error report: the values drawn by the last exchange (10 R39, log 44). -/
  report : ErrorReport
  /-- The II register (10 R46). -/
  ii : Word
  /-- Programmable clock enable (10 R46). -/
  pciEnable : Bool
  /-- Programmable clock request (10 R46). -/
  pciRequest : Bool
  /-- Interprocessor interrupt requests, bit n for CPU n (10 R49). -/
  ipiPending : BitVec 32
  /-- Cache-invalidate requests, bit n for CPU n (10 R58). -/
  ivcPending : BitVec 32
  /-- Performance monitor, opaque (10 R51). -/
  perf : Nat
  /-- Maintenance modes (10 R52). -/
  maint : Maintenance
  /-- Scalar cache: address and word of each valid line, addresses rising (20 R99). -/
  cache : List (Nat × Word)
  /-- Instruction buffers: word addresses stored into since the last exchange (20 R108, log 25). -/
  ibufStored : List Nat
  /-- Memory writes in flight, oldest first; the queue of section k is the entries with address k modulo 8 (20 R105). -/
  pending : List (Nat × Word)
  /-- Shared-register writes in flight, oldest first (10 R55). -/
  sharedQueue : List SharedWrite
  /-- Central memory: the bytes that hold a value, addresses rising (20 R80, logs 5 and 6). -/
  mem : List Host.Cell
  /-- The clusters; cluster number c is entry c - 1 (10 R43). -/
  clusters : Vector Cluster Config.maxClusters
  /-- Real-time clock (10 R45). -/
  rtc : Word
  /-- The channels; channel number n is entry n - 0o20 (60 R529). -/
  chans : Vector Channel 64
  /-- Processor status of each CPU; the entry of this CPU is not read (10 R47). -/
  peers : Vector ProcStatus 32
  /-- The MODEL's own: the parameters of the system (00 R11, log 1). -/
  sys : System
  /-- The MODEL's own: whether the deadstart exchange has been made (70 R551, log 10). -/
  running : Bool
  /-- The MODEL's own: what the other agents do, a batch for each step (log 21). -/
  inputs : List (List Event)
  /-- The MODEL's own: how many draws have been made (log 12). -/
  seq : Nat
  deriving DecidableEq, Repr

/-- No flag. -/
def Flags.none : Flags :=
  { dl := false, fpe := false, ore := false, pci := false, icp := false, ioi := false, me := false, eex := false
    nex := false, pre := false, mcu := false }

/-- No maintenance mode (70 R553 P5). -/
def Maintenance.off : Maintenance :=
  { portA := false, portB := false, portD := false, swapCheckBytes := false, replaceCheckBits := false }

/-- A cluster whose registers are all 0. -/
def Cluster.zero : Cluster := { sb := Vector.replicate 8 0, st := Vector.replicate 8 0, sm := 0 }

/-- A channel that has done nothing (70 R553 P4). -/
def Channel.idle : Channel :=
  { ca := 0, cl := 0, int := false, err := false, active := false, masterClear := false, readyHeld := false }

/-- The machine right after reset, before the deadstart exchange (70 R551).
The spec states no register value (10 R59); the values here are those of logs 8 to 10. The status the JS logic holds of
every other CPU is all 0 (DESIGN CHOICE, log 52), and the system is the largest (DESIGN CHOICE, log 1). -/
def State.reset : State where
  a := Vector.replicate 8 0
  s := Vector.replicate 8 0
  b := Vector.replicate 64 0
  t := Vector.replicate 64 0
  v := Vector.replicate 8 (Vector.replicate 64 0)
  vl := 1
  vm := 0
  p := 0
  iba := 0
  ila := 0x100000
  dba := 0
  dla := 0x100000
  xa := 0
  flags := Flags.none
  modes := { mm := true, sei := false, bdm := false, ifp := false, ior := false, rest := 0 }
  ce := false
  cln := 0
  pn := 0
  vnu := false
  ws := false
  held := none
  report := { syndrome := 0, mea := 0, meaContinued := 0, errorType := 0, port := 0, readMode := 0 }
  ii := 0
  pciEnable := false
  pciRequest := false
  ipiPending := 0
  ivcPending := 0
  perf := 0
  maint := Maintenance.off
  cache := []
  ibufStored := []
  pending := []
  sharedQueue := []
  mem := []
  clusters := Vector.replicate Config.maxClusters Cluster.zero
  rtc := 0
  chans := Vector.replicate 64 Channel.idle
  peers := Vector.replicate 32 { mm := false, sei := false, ws := false, cln := 0 }
  sys := { backplane := .eightByEight 4, memory := .mem128, channels := BitVec.allOnes 64 }
  running := false
  inputs := []
  seq := 0

end Sys2Proof.Machine
end

