-- ==== Sys2Proof/Machine/Parameters.lean ====
section
/-! DEFINITION. The conventions of 00 R11 that the source leaves open and that a test could show wrong, each at the
value the spec recommends. -/

namespace Sys2Proof.Machine

/-! ## Of one system (00 R11, log 1) -/

/-- The processor modules a backplane holds (20 R81, 90 C2). -/
def processorModules : Backplane → Nat
  | .twoByTwo n => n.val + 1
  | .fourByFour n => n.val + 1
  | .eightByEight n => n.val + 4

/-- The memory modules of a backplane, whose slots are all filled (00 R2, 20 R81). -/
def memoryModules : Backplane → Nat
  | .twoByTwo _ => 2
  | .fourByFour _ => 4
  | .eightByEight _ => 8

/-- The words of one memory module, 16 to 128 Mwords of 2^20 words (20 R81). -/
def moduleWords : MemoryModule → Nat
  | .mem16 => 2 ^ 24
  | .mem32 => 2 ^ 25
  | .mem64 => 2 ^ 26
  | .mem128 => 2 ^ 27

/-- `NCPU`: 4 for each processor module (00 R2, 60 R536). -/
def ncpu (y : System) : Nat := 4 * processorModules y.backplane

/-- `MEMWORDS`, the entry of Table 5 (20 R81). -/
def memWords (y : System) : Nat := memoryModules y.backplane * moduleWords y.memory

/-- `OPEN(NCLUSTERS)` at its recommended value `NCPU + 1` (10 R43). PRESUMED (log 1), unsafe. -/
def nclusters (y : System) : Nat := ncpu y + 1

/-- No system has more CPUs than 32 (00 R2). -/
theorem ncpu_le (y : System) : ncpu y ≤ 32 := by
  obtain ⟨_ | _ | _, _, _⟩ := y <;> simp only [ncpu, processorModules] <;> omega

/-- No system has more clusters than State holds. -/
theorem nclusters_le (y : System) : nclusters y ≤ Config.maxClusters := Nat.succ_le_succ (ncpu_le y)

/-- Whether a channel is configured: its processor module is present and it is in `cfg.configured_channels` (60 R529). -/
def channelExists (y : System) (n : Fin 64) : Bool :=
  decide (n.val / 8 < processorModules y.backplane) && y.channels.getLsbD n.val

/-! ## Of every system -/

/-- `OPEN(BASE_SHIFT)`: a base or limit register counts 2^10 words (20 R87). PRESUMED (log 4), unsafe. -/
def blockWords : Nat := 1024

/-- `OPEN(VM_ELEMENT_BIT)`: the VM bit of element e (10 R26). PRESUMED (log 17), unsafe. -/
def vmBit (e : Nat) : Nat := 63 - e

/-- `OPEN(VM_TAIL)` at `clear`: a VM bit of an element at or past VL after a mask test (47 R466).
PRESUMED (log 17), unsafe. -/
def vmTail : Bool := false

/-- `OPEN(SM_IMAGE)`: semaphore n is bit 63 - n of the S-register image (10 R42). PRESUMED (log 18), unsafe. -/
def smImageBit (n : Nat) : Nat := 63 - n

/-- `OPEN(XA_FROM_A)`: bits 13:4 of (Aj) go to XA (40 R167). PRESUMED (log 19), unsafe. -/
def xaOf (a : AWord) : BitVec 10 := a.extractLsb' 4 10

/-- The VL formed from (Ak): its low six bits, 0 standing for 64 (40 R190, D9). PRESUMED (log 20), unsafe. -/
def vlOf (a : AWord) : BitVec 7 :=
  let n := a.extractLsb' 0 6
  if n = 0 then 64 else n.setWidth 7

/-- The element number taken from (Ak): modulo 64 (44 R363, D21). PRESUMED (log 46), unsafe. -/
def elementOf (a : AWord) : BitVec 6 := a.extractLsb' 0 6

/-- `cfg.fconst` at its recommended values (44 R344 to R348). PRESUMED (log 14), unsafe. -/
def fconst (j : BitVec 3) : Word :=
  if j = 3 then 0x4030C00000000000
  else if j = 4 then 0x4000800000000000
  else if j = 5 then 0x4001800000000000
  else if j = 6 then 0x4002800000000000
  else 0x4003800000000000

/-- `cfg.a_to_float` at its recommended value: sign, exponent 0o40060, the magnitude as coefficient (44 R343).
PRESUMED (log 14), unsafe. -/
def aToFloat (a : AWord) : Word :=
  let magnitude : BitVec 48 := if a.msb then (0 - a).setWidth 48 else a.setWidth 48
  (BitVec.ofBool a.msb ++ (0o40060#15 ++ magnitude) : BitVec 64)

/-- `cfg.chan_priority`: the lowest requesting channel number, 0 for none (42 R256). PRESUMED (log 34), unsafe. -/
def channelPriority (y : System) (chans : Vector Channel 64) : AWord :=
  match (List.finRange 64).find? (fun n => channelExists y n && chans[n].int) with
  | some n => BitVec.ofNat 32 (n.val + 16)
  | none => 0

/-- `OPEN(INT_IN_MONITOR)`: whether ICP, IOI and PCI are taken while MM = 1 (60 R510). PRESUMED (log 29), unsafe. -/
def takenInMonitor : Bool := false

/-- `OPEN(IVC_SELF_SYNC)`: whether IVC naming this CPU empties its cache at once (40 R189).
DESIGN CHOICE (log 35), safe. -/
def ivcSelfSync : Bool := false

/-- `OPEN(BOOT_XA)`: the XA of the deadstart exchange (70 R551). PRESUMED (log 10), unsafe. -/
def bootXa : BitVec 10 := 0

end Sys2Proof.Machine
end

