-- ==== Sys2Proof/Machine/Flags.lean ====
section
/-! DEFINITION. FLAGS and MODES as the exchange package carries them (10 R32, R33, R60), and the flags of the causes.
No instruction leaves a condition flag (10 R28). -/

namespace Sys2Proof.Machine

/-- The number whose bit p is `f p`. -/
def bitsOf : (n : Nat) → (Nat → Bool) → BitVec n
  | 0, _ => 0#0
  | n + 1, f => (BitVec.ofBool (f n) ++ bitsOf n f).cast (Nat.add_comm 1 n)

/-- The flags in the order 10 R32 names them. -/
def flagList (f : Flags) : List Bool :=
  [f.dl, f.fpe, f.ore, f.pci, f.icp, f.ioi, f.me, f.eex, f.nex, f.pre, f.mcu]

/-- Each flag at its place in the field, `OPEN(FLAG_BIT)` (10 R32). -/
def packFlags (f : Flags) : BitVec 11 :=
  bitsOf 11 fun p => if h : p < 11 then (flagList f).getD (Config.flagBit.symm ⟨p, h⟩).val false else false

/-- The flag numbered n in a field read from a package. -/
def flagAt (field : BitVec 11) (n : Fin 11) : Bool := field.getLsbD (Config.flagBit n).val

/-- The flags of a field read from a package (10 R32). -/
def unpackFlags (field : BitVec 11) : Flags where
  dl := flagAt field 0
  fpe := flagAt field 1
  ore := flagAt field 2
  pci := flagAt field 3
  icp := flagAt field 4
  ioi := flagAt field 5
  me := flagAt field 6
  eex := flagAt field 7
  nex := flagAt field 8
  pre := flagAt field 9
  mcu := flagAt field 10

/-- The mode bits, the five named ones first (10 R33). -/
def modeList (m : Modes) : List Bool :=
  [m.mm, m.sei, m.bdm, m.ifp, m.ior, m.rest.getLsbD 0, m.rest.getLsbD 1, m.rest.getLsbD 2, m.rest.getLsbD 3,
    m.rest.getLsbD 4, m.rest.getLsbD 5, m.rest.getLsbD 6]

/-- Each mode bit at its place in the field, `OPEN(MODE_BIT)` (10 R33). -/
def packModes (m : Modes) : BitVec 12 :=
  bitsOf 12 fun p => if h : p < 12 then (modeList m).getD (Config.modeBit.symm ⟨p, h⟩).val false else false

/-- The mode bit numbered n in a field read from a package. -/
def modeAt (field : BitVec 12) (n : Fin 12) : Bool := field.getLsbD (Config.modeBit n).val

/-- The mode bits of a field read from a package (10 R33). -/
def unpackModes (field : BitVec 12) : Modes where
  mm := modeAt field 0
  sei := modeAt field 1
  bdm := modeAt field 2
  ifp := modeAt field 3
  ior := modeAt field 4
  rest := bitsOf 7 fun n => if h : n + 5 < 12 then modeAt field ⟨n + 5, h⟩ else false

/-- The flags of either set (60 R504, R512). -/
def Flags.union (f g : Flags) : Flags where
  dl := f.dl || g.dl
  fpe := f.fpe || g.fpe
  ore := f.ore || g.ore
  pci := f.pci || g.pci
  icp := f.icp || g.icp
  ioi := f.ioi || g.ioi
  me := f.me || g.me
  eex := f.eex || g.eex
  nex := f.nex || g.nex
  pre := f.pre || g.pre
  mcu := f.mcu || g.mcu

/-- Deadlock (60 R517). -/
def causeDl : Flags := { Flags.none with dl := true }
/-- Floating-point error (60 R513). -/
def causeFpe : Flags := { Flags.none with fpe := true }
/-- Operand range error (60 R514). -/
def causeOre : Flags := { Flags.none with ore := true }
/-- Program range error (60 R516). -/
def causePre : Flags := { Flags.none with pre := true }
/-- Error exit (60 R518). -/
def causeEex : Flags := { Flags.none with eex := true }
/-- Normal exit (60 R518). -/
def causeNex : Flags := { Flags.none with nex := true }

end Sys2Proof.Machine
end

