-- ==== Sys2Proof/Machine/Operands.lean ====
section
/-! DEFINITION. Register access, the operand readers of 00 R9 and R10, and the bit arithmetic the instructions share. -/

namespace Sys2Proof.Machine

/-! ## Registers by designator -/

/-- One of eight registers by its 3-bit designator. -/
def reg {α : Type} (r : Vector α 8) (n : BitVec 3) : α := r[n.toNat]'n.isLt

/-- Eight registers with one replaced. -/
def setReg {α : Type} (r : Vector α 8) (n : BitVec 3) (x : α) : Vector α 8 := r.set n.toNat x n.isLt

/-- One of 64 registers or elements by its 6-bit number. -/
def reg64 {α : Type} (r : Vector α 64) (n : BitVec 6) : α := r[n.toNat]'n.isLt

/-- 64 registers or elements with one replaced. -/
def setReg64 {α : Type} (r : Vector α 64) (n : BitVec 6) (x : α) : Vector α 64 := r.set n.toNat x n.isLt

/-! ## Operand readers (00 R9, R10) -/

/-- `Ah_(h)`: 0 for h = 0. -/
def readAh (s : State) (h : BitVec 3) : AWord := if h = 0 then 0 else reg s.a h
/-- `Aj_(j)`: 0 for j = 0. -/
def readAj (s : State) (j : BitVec 3) : AWord := if j = 0 then 0 else reg s.a j
/-- `Ak_(k)`: 1 for k = 0. -/
def readAk (s : State) (k : BitVec 3) : AWord := if k = 0 then 1 else reg s.a k
/-- `Sj_(j)`: 0 for j = 0. -/
def readSj (s : State) (j : BitVec 3) : Word := if j = 0 then 0 else reg s.s j
/-- 2^63, the constant SB of the listing. -/
def signBit : Word := 0x8000000000000000
/-- `Sk_(k)`: 2^63 for k = 0. -/
def readSk (s : State) (k : BitVec 3) : Word := if k = 0 then signBit else reg s.s k

/-- Element e of V register n; elements are numbered 0 to 63 (10 R24). -/
def element (s : State) (n : BitVec 3) (e : Nat) : Word := (reg s.v n)[e]?.getD 0

/-! ## Bit arithmetic -/

/-- The number of 1 bits (00 R10). -/
def popCount (w : Word) : Nat := (List.range 64).countP fun n => w.getLsbD n

/-- The number of 0 bits above the highest 1 bit; 64 for 0 (00 R10). -/
def leadingZeros (w : Word) : Nat := ((List.range 64).takeWhile fun n => !w.getMsbD n).length

/-- `trunc_64(2^(64 - jk) - 1)`: the mask of 042 (43 R283). -/
def maskRight (jk : BitVec 6) : Word := BitVec.ofNat 64 (2 ^ (64 - jk.toNat) - 1)

/-- `trunc_64((2^jk - 1) << (64 - jk))`: the mask of 043 (43 R284). -/
def maskLeft (jk : BitVec 6) : Word := BitVec.ofNat 64 ((2 ^ jk.toNat - 1) * 2 ^ (64 - jk.toNat))

/-- Left shift, end-off, zero fill; a count of 64 or more gives 0 (43 R280, D12). -/
def shiftLeft (w : Word) (count : Nat) : Word := if 64 ≤ count then 0 else w <<< count

/-- Right shift, end-off, zero fill; a count of 64 or more gives 0 (43 R280, D12). -/
def shiftRight (w : Word) (count : Nat) : Word := if 64 ≤ count then 0 else w >>> count

/-- The high half of the 128-bit left shift of `high ‖ low` (43 R295, 46 R421). -/
def doubleLeft (high low : Word) (count : Nat) : Word :=
  if 128 ≤ count then 0 else ((high ++ low : BitVec 128) <<< count).extractLsb' 64 64

/-- The low half of the 128-bit right shift of `high ‖ low` (43 R296, 46 R422). -/
def doubleRight (high low : Word) (count : Nat) : Word :=
  if 128 ≤ count then 0 else ((high ++ low : BitVec 128) >>> count).extractLsb' 0 64

/-! ## Vectors (46 R410) -/

/-- A vector register whose elements below VL are `f e` and whose others stay (46 R410). -/
def vectorWith (vl : BitVec 7) (old : Vector Word 64) (f : Nat → Word) : Vector Word 64 :=
  Vector.ofFn fun e => if e.val < vl.toNat then f e.val else old[e]

/-- The VM bit of element e (10 R26). -/
def maskBit (s : State) (e : Nat) : Bool := s.vm.getLsbD (vmBit e)

/-- VM after a mask test: the condition for elements below VL, `OPEN(VM_TAIL)` above (47 R466). -/
def maskWith (vl : BitVec 7) (test : Nat → Bool) : Word :=
  bitsOf 64 fun p => if vmBit p < vl.toNat then test (vmBit p) else vmTail

/-- The element numbers below VL that satisfy a test, in increasing order (47 R466). -/
def testedElements (vl : BitVec 7) (test : Nat → Bool) : List Nat := (List.range vl.toNat).filter test

/-- A vector register with the given element numbers packed from element 0 up and the others as before (47 R466). -/
def compressedInto (old : Vector Word 64) (found : List Nat) : Vector Word 64 :=
  Vector.ofFn fun e => match found[e.val]? with
    | some n => BitVec.ofNat 64 n
    | none => old[e]

/-! ## Semaphores as a word (10 R42, 44 R351, R355) -/

/-- `sm_image`: the 32 semaphores as an S-register value. -/
def smImage (sm : BitVec 32) : Word :=
  bitsOf 64 fun p => if smImageBit p < 32 then sm.getLsbD (smImageBit p) else false

/-- `sm_unimage`: the 32 semaphores from an S-register value. -/
def smUnimage (w : Word) : BitVec 32 := bitsOf 32 fun n => w.getLsbD (smImageBit n)

end Sys2Proof.Machine
end

