-- ==== Sys2Proof/Machine/Memory.lean ====
section
/-! DEFINITION. Central memory as a list of bytes in one canonical form, the section queues of writes in flight,
address translation and the scalar cache (spec/20_memory.md).

A word w is the eight bytes at 8w to 8w + 7, high byte first (DESIGN CHOICE, log 5). An unlisted byte holds no value, and
reading it faults (70 R552, log 6). -/

namespace Sys2Proof.Machine

/-! ## The memory list -/

/-- The canonical form: addresses strictly rising. An unlisted address holds no value, so no entry repeats it. -/
abbrev Memory.wf (mem : List Host.Cell) : Prop := mem.Pairwise fun x y => x.1 < y.1

/-- One byte; `none` where nothing has been written. -/
def readByte : List Host.Cell → Nat → Option Byte
  | [], _ => none
  | (b, v) :: rest, a => if a = b then some v else readByte rest a

/-- Write one byte. -/
def writeByte : List Host.Cell → Nat → Byte → List Host.Cell
  | [], a, v => [(a, v)]
  | (b, w) :: rest, a, v =>
    if a < b then (a, v) :: (b, w) :: rest
    else if a = b then (a, v) :: rest
    else (b, w) :: writeByte rest a v

/-- Write bytes at rising addresses. -/
def writeBytes : List Host.Cell → Nat → List Byte → List Host.Cell
  | mem, _, [] => mem
  | mem, a, v :: vs => writeBytes (writeByte mem a v) (a + 1) vs

/-- The bytes of a word, high byte first. -/
def wordBytes (w : Word) : List Byte :=
  [w.extractLsb' 56 8, w.extractLsb' 48 8, w.extractLsb' 40 8, w.extractLsb' 32 8, w.extractLsb' 24 8,
    w.extractLsb' 16 8, w.extractLsb' 8 8, w.extractLsb' 0 8]

/-- The word at an absolute word address; `none` where a byte of it holds no value. -/
def readWord (mem : List Host.Cell) (a : Nat) : Option Word := do
  let b0 ← readByte mem (8 * a)
  let b1 ← readByte mem (8 * a + 1)
  let b2 ← readByte mem (8 * a + 2)
  let b3 ← readByte mem (8 * a + 3)
  let b4 ← readByte mem (8 * a + 4)
  let b5 ← readByte mem (8 * a + 5)
  let b6 ← readByte mem (8 * a + 6)
  let b7 ← readByte mem (8 * a + 7)
  some (b0 ++ b1 ++ b2 ++ b3 ++ b4 ++ b5 ++ b6 ++ b7)

/-- `MemWrite(a, 1, v)` performed at memory (20 R80). -/
def writeWord (mem : List Host.Cell) (a : Nat) (v : Word) : List Host.Cell := writeBytes mem (8 * a) (wordBytes v)

/-- Words at rising addresses; `none` where one of them holds no value. -/
def readWords (mem : List Host.Cell) (a : Nat) : Nat → Option (List Word)
  | 0 => some []
  | n + 1 => do
    let w ← readWord mem a
    let ws ← readWords mem (a + 1) n
    some (w :: ws)

/-- Write words at rising addresses. -/
def writeWords : List Host.Cell → Nat → List Word → List Host.Cell
  | mem, _, [] => mem
  | mem, a, w :: ws => writeWords (writeWord mem a w) (a + 1) ws

/-! ## Writes in flight (20 R105) -/

/-- The memory after the listed writes, oldest first. -/
def performList (mem : List Host.Cell) (ws : List (Nat × Word)) : List Host.Cell :=
  ws.foldl (fun m e => writeWord m e.1 e.2) mem

/-- Whether a queued write belongs to a section: address bits 2:0 (20 R82). -/
def inSection (k : Nat) (e : Nat × Word) : Bool := e.1 % 8 == k

/-- Every queued write of one section is performed. -/
def performSection (k : Nat) (s : State) : State :=
  { s with
    mem := performList s.mem (s.pending.filter (inSection k))
    pending := s.pending.filter fun e => !inSection k e }

/-- Every queued write is performed, as CMR and the exchange wait for (20 R104, R112). -/
def performAll (s : State) : State := { s with mem := performList s.mem s.pending, pending := [] }

/-- The oldest queued write of one section is performed (20 R105). -/
def performOldest (k : Nat) (s : State) : State :=
  match s.pending.find? (inSection k) with
  | some e => { s with mem := writeWord s.mem e.1 e.2, pending := s.pending.eraseP (inSection k) }
  | none => s

/-- One byte as this CPU's own references find it: after its queued writes (20 R94). -/
def byteAt (s : State) (a : Nat) : Option Byte := readByte (performAll s).mem a

/-- One word as this CPU's own references find it: after its queued writes (20 R94). -/
def wordAt (s : State) (a : Nat) : Option Word := readWord (performAll s).mem a

/-! ## References -/

/-- The outcome of a memory reference. -/
inductive Access (α : Type) where
  | done (x : α)
  /-- An operand range error to be taken (20 R87, IOR = 1). -/
  | rangeError
  | fault (f : Fault)
  | refused (r : Refusal)
  deriving DecidableEq, Repr

/-- Go on with what a reference answers. -/
def Access.andThen {α β : Type} (x : Access α) (f : α → Access β) : Access β :=
  match x with
  | .done a => f a
  | .rangeError => .rangeError
  | .fault e => .fault e
  | .refused r => .refused r

/-- Remember that a word was stored into since the last exchange (20 R108). -/
def markStored (a : Nat) (stored : List Nat) : List Nat := if stored.contains a then stored else a :: stored

/-- `MemRead(a, 1)`: the reference waits for the queue of its section, then reads memory (20 R105). -/
def absRead (a : Nat) (s : State) : Access (Word × State) :=
  if memWords s.sys ≤ a then .fault .memoryAbsent
  else
    let s' := performSection (a % 8) s
    match readWord s'.mem a with
    | some w => .done (w, s')
    | none => .fault .memoryNoValue

/-- `MemWrite(a, 1, v)`: the write joins the queue of its section (20 R105). -/
def absWrite (a : Nat) (v : Word) (s : State) : Access State :=
  if memWords s.sys ≤ a then .fault .memoryAbsent
  else .done { s with pending := s.pending ++ [(a, v)], ibufStored := markStored a s.ibufStored }

/-- The absolute address of a logical data address, before the limit is looked at (20 R87). -/
def absoluteOf (s : State) (l : AWord) : Nat := s.dba.toNat * blockWords + l.toNat

/-- Whether a logical data address is in range: 32 bits, and below the data limit (20 R87). -/
def dataInRange (s : State) (l : AWord) : Bool :=
  decide (absoluteOf s l < 2 ^ 32) && decide (absoluteOf s l < s.dla.toNat * blockWords)

/-- `DAddr(l)` (20 R87): out of range it raises the operand range error when IOR = 1, and has no meaning
when IOR = 0. -/
def dataAddress (l : AWord) (s : State) : Access Nat :=
  if dataInRange s l then .done (absoluteOf s l)
  else if s.modes.ior then .rangeError
  else .refused .operandRange

/-! ## The scalar cache (20 R96 to R103) -/

/-- The cached word of an address. -/
def cacheFind : List (Nat × Word) → Nat → Option Word
  | [], _ => none
  | (b, v) :: rest, a => if a = b then some v else cacheFind rest a

/-- Put a line in its place among the rising addresses, over a line of the same address. -/
def cacheInsert : List (Nat × Word) → Nat → Word → List (Nat × Word)
  | [], a, v => [(a, v)]
  | (b, w) :: rest, a, v =>
    if a < b then (a, v) :: (b, w) :: rest
    else if a = b then (a, v) :: rest
    else (b, w) :: cacheInsert rest a v

/-- Drop the line of an address. -/
def cacheDrop (cache : List (Nat × Word)) (a : Nat) : List (Nat × Word) := cache.filter fun e => e.1 != a

/-- What a scalar reference leaves in the cache: nothing with CE = 0 (20 R97); with CE = 1 the line is updated, or
allocated while there is room. The other choice of 20 R100, not to allocate, is the event `lineLost` (log 24). -/
def cacheKeep (s : State) (a : Nat) (v : Word) : List (Nat × Word) :=
  if !s.ce then s.cache
  else if (cacheFind s.cache a).isSome || decide (s.cache.length < Config.cacheLines) then cacheInsert s.cache a v
  else s.cache

/-- `ScalarRead(l)` (20 R100). A hit answers the cached word and its redundant memory request has no effect. -/
def scalarRead (l : AWord) (s : State) : Access (Word × State) :=
  (dataAddress l s).andThen fun a =>
    match (if s.ce then cacheFind s.cache a else none) with
    | some w => .done (w, s)
    | none => (absRead a s).andThen fun r => .done (r.1, { r.2 with cache := cacheKeep r.2 a r.1 })

/-- `ScalarWrite(l, v)` (20 R100): store through, and the cache follows. -/
def scalarWrite (l : AWord) (v : Word) (s : State) : Access State :=
  (dataAddress l s).andThen fun a =>
    (absWrite a v s).andThen fun s' => .done { s' with cache := cacheKeep s' a v }

/-- `VectorRead(l)` and `BlockRead(l)` (20 R101): past the cache. -/
def uncachedRead (l : AWord) (s : State) : Access (Word × State) :=
  (dataAddress l s).andThen fun a => absRead a s

/-- `VectorWrite(l, v)` (20 R101): a matching cache line is invalidated. -/
def vectorWrite (l : AWord) (v : Word) (s : State) : Access State :=
  (dataAddress l s).andThen fun a =>
    (absWrite a v s).andThen fun s' => .done { s' with cache := cacheDrop s'.cache a }

/-- `BlockWrite(l, v)` (20 R101): a matching cache line may stay; that it goes is the event `lineLost` (log 24). -/
def blockWrite (l : AWord) (v : Word) (s : State) : Access State :=
  (dataAddress l s).andThen fun a => absWrite a v s

end Sys2Proof.Machine
end

