-- ==== Sys2Proof/Machine/Environment.lean ====
section
/-! DEFINITION. What the other CPUs, the channels, the clocks, the memory sections and the JS logic do to the state
between this CPU's own actions: the events of `State.inputs` (logs 21 and 26). -/

namespace Sys2Proof.Machine

/-! ## Shared registers (10 R40 to R44) -/

/-- A shared-register write takes effect on the one architectural copy (20 R106). -/
def applyShared (cs : Vector Cluster Config.maxClusters) : SharedWrite → Vector Cluster Config.maxClusters
  | .sb c j v => cs.set c.val { cs[c] with sb := setReg cs[c].sb j v } c.isLt
  | .st c j v => cs.set c.val { cs[c] with st := setReg cs[c].st j v } c.isLt
  | .semaphore c n v =>
    cs.set c.val
      { cs[c] with
        sm := if v then cs[c].sm ||| BitVec.twoPow 32 n.val else cs[c].sm &&& ~~~(BitVec.twoPow 32 n.val) }
      c.isLt
  | .semaphores c v => cs.set c.val { cs[c] with sm := v } c.isLt

/-- The oldest shared-register write of this CPU is delivered (20 R106). -/
def deliverOldest (s : State) : State :=
  match s.sharedQueue with
  | [] => s
  | w :: rest => { s with clusters := applyShared s.clusters w, sharedQueue := rest }

/-- Every shared-register write of this CPU is delivered, as a shared read waits for (20 R106). -/
def deliverAll (s : State) : State :=
  { s with clusters := s.sharedQueue.foldl applyShared s.clusters, sharedQueue := [] }

/-! ## Channels (60 R529 to R532) -/

/-- Input channels have even numbers (10 R50). -/
def isInput (n : Fin 64) : Bool := n.val % 2 == 0

/-- What an instruction does to channel n (40 R162 to R166). -/
def commandChannel (n : Fin 64) (c : ChannelCommand) (ch : Channel) : Channel :=
  match c with
  | .setCurrent v => { ch with ca := v, active := true }
  | .setLimit v => { ch with cl := v }
  | .clear => { ch with int := false, err := false, masterClear := ch.masterClear && isInput n }
  | .masterClear =>
    { ch with
      int := false, err := false
      masterClear := ch.masterClear || !isInput n
      readyHeld := ch.readyHeld && !isInput n }

/-- The channels after a command to one of them. -/
def setChannel (s : State) (n : Fin 64) (f : Channel → Channel) : Vector Channel 64 :=
  s.chans.set n.val (f s.chans[n]) n.isLt

/-- A store by another agent: performed at memory at once, and remembered for the fetch (20 R95, R108). -/
def storeByOther (s : State) (a : Nat) (w : Word) : State :=
  { s with mem := writeWord s.mem a w, ibufStored := markStored a s.ibufStored }

/-- One word moved by an active channel (60 R531). -/
def moveChannelWord (s : State) (n : Fin 64) (w : Word) : State :=
  let ch := s.chans[n]
  if ch.active && decide (ch.ca.toNat < ch.cl.toNat) && decide (ch.ca.toNat < memWords s.sys) then
    let s' := { s with chans := setChannel s n fun c => { c with ca := c.ca + 1 } }
    if isInput n then storeByOther s' ch.ca.toNat w else s'
  else s

/-- An active channel finishes at its limit, or stops on an error (60 R531). -/
def finishChannel (s : State) (n : Fin 64) (err : Bool) : State :=
  let ch := s.chans[n]
  if ch.active && (err || ch.ca == ch.cl) then
    { s with chans := setChannel s n fun c => { c with active := false, int := true, err := c.err || err } }
  else s

/-! ## Events -/

/-- Bit n of a set of CPUs set or cleared. -/
def setCpuBit (m : BitVec 32) (n : Nat) (v : Bool) : BitVec 32 :=
  if v then m ||| BitVec.twoPow 32 n else m &&& ~~~(BitVec.twoPow 32 n)

/-- The cluster a shared-register write goes to. -/
def clusterWritten : SharedWrite → Fin Config.maxClusters
  | .sb c _ _ => c
  | .st c _ _ => c
  | .semaphore c _ _ => c
  | .semaphores c _ => c

/-- Whether the channel, the CPU and the cluster an event names are of this system (00 R11). -/
def eventInSystem (y : System) : Event → Bool
  | .perform _ => true
  | .deliver => true
  | .rtcAdvance _ => true
  | .clockRequest => true
  | .lineLost _ => true
  | .cacheInvalidated => true
  | .channelWord n _ => channelExists y n
  | .channelDone n _ => channelExists y n
  | .deviceReady n => channelExists y n
  | .peerStore _ _ => true
  | .peerShared w => decide ((clusterWritten w).val < nclusters y)
  | .peerClock _ => true
  | .peerChannel n _ => channelExists y n
  | .peerInterrupt n => decide (n.val < ncpu y)
  | .peerInterruptCleared n => decide (n.val < ncpu y)
  | .peerInvalidate n => decide (n.val < ncpu y)
  | .peerInvalidated n => decide (n.val < ncpu y)
  | .peerStatus n _ => decide (n.val < ncpu y)

/-- What an event of this system does; one that its contract does not allow changes nothing. -/
def eventEffect (s : State) : Event → State
  | .perform sec => performOldest sec.val s
  | .deliver => deliverOldest s
  | .rtcAdvance d => { s with rtc := s.rtc + d }
  | .clockRequest => if s.pciEnable then { s with pciRequest := true } else s
  | .lineLost a => { s with cache := cacheDrop s.cache a }
  | .cacheInvalidated =>
    if s.ivcPending.getLsbD s.pn.toNat then
      { s with cache := [], ivcPending := setCpuBit s.ivcPending s.pn.toNat false }
    else s
  | .channelWord n w => moveChannelWord s n w
  | .channelDone n err => finishChannel s n err
  | .deviceReady n =>
    if isInput n then { s with chans := setChannel s n fun c => { c with readyHeld := true } } else s
  | .peerStore a w => if a.toNat < memWords s.sys then storeByOther s a.toNat w else s
  | .peerShared w => { s with clusters := applyShared s.clusters w }
  | .peerClock v => { s with rtc := v }
  | .peerChannel n c => { s with chans := setChannel s n (commandChannel n c) }
  | .peerInterrupt n => { s with ipiPending := setCpuBit s.ipiPending n.val true }
  | .peerInterruptCleared n =>
    if n.val = s.pn.toNat then s else { s with ipiPending := setCpuBit s.ipiPending n.val false }
  | .peerInvalidate n => { s with ivcPending := setCpuBit s.ivcPending n.val true }
  | .peerInvalidated n =>
    if n.val = s.pn.toNat then s else { s with ivcPending := setCpuBit s.ivcPending n.val false }
  | .peerStatus n st =>
    if n.val = s.pn.toNat then s else { s with peers := s.peers.set n.val st n.isLt }

/-- One event. -/
def applyEvent (s : State) (e : Event) : State := if eventInSystem s.sys e then eventEffect s e else s

/-- The next batch of events takes place, and the count of draws goes on. -/
def environment (s : State) : State :=
  match s.inputs with
  | [] => { s with seq := s.seq + 1 }
  | batch :: rest => batch.foldl applyEvent { s with inputs := rest, seq := s.seq + 1 }

end Sys2Proof.Machine
end

