-- ==== Sys2Proof/Machine/Ops.lean ====
section
/-! DEFINITION. The operations the meanings share: moving P, taking an exchange and returning by one, privilege, shared
registers, floating-point checks, vector results and memory transfers. -/

namespace Sys2Proof.Machine

/-- What a meaning answers. -/
abbrev Result := Host.Outcome State Fault Refusal

/-- P goes on by the parcels of the instruction, modulo 2^24 (10 R27). -/
def advance (parcels : Nat) (s : State) : State := { s with p := s.p + BitVec.ofNat 24 parcels }

/-- Write an A register and go on. -/
def finishA (i : BitVec 3) (x : AWord) (parcels : Nat) (s : State) : Result :=
  .next { advance parcels s with a := setReg s.a i x }

/-- Write an S register and go on. -/
def finishS (i : BitVec 3) (x : Word) (parcels : Nat) (s : State) : Result :=
  .next { advance parcels s with s := setReg s.s i x }

/-! ## The exchange sequence (spec/60_exceptions.md, section 1)

Taking an exception and returning from one are this one operation (60 R500, R508). -/

/-- The report fields and VNU, which a saved package holds as draws (60 R504, D39, D41). -/
def drawReport (s : State) : State :=
  { s with
    vnu := (Config.draw s.seq).getLsbD 63
    report :=
      { syndrome := (Config.draw s.seq).extractLsb' 0 8
        mea := (Config.draw s.seq).extractLsb' 8 8
        meaContinued := (Config.draw s.seq).extractLsb' 16 2
        errorType := (Config.draw s.seq).extractLsb' 18 2
        port := (Config.draw s.seq).extractLsb' 20 3
        readMode := (Config.draw s.seq).extractLsb' 23 2 }
    seq := s.seq + 1 }

/-- The unassigned bits of word w of a package: the low bits of a draw of their own (60 R504, D39). -/
def unassigned (s : State) (w n : Nat) : BitVec n := (Config.draw (s.seq + w)).extractLsb' 0 n

/-- The unassigned bits of word w that stand to the right of others of the same word. -/
def unassignedLow (s : State) (w n : Nat) : BitVec n := (Config.draw (s.seq + w)).extractLsb' 32 n

/-- `Pack(cpu, causes)`: the sixteen words of the package saved (60 R504, 10 R60). -/
def packPackage (s : State) (causes : Flags) : List Word :=
  [ (unassigned s 0 3 ++ s.pn ++ s.p ++ reg s.a 0 : BitVec 64),
    (s.report.syndrome ++ s.iba ++ unassigned s 1 2 ++ reg s.a 1 : BitVec 64),
    (s.report.mea ++ s.ila ++ unassigned s 2 2 ++ reg s.a 2 : BitVec 64),
    (unassigned s 3 6 ++ s.report.meaContinued ++ s.dba ++ unassignedLow s 3 2 ++ reg s.a 3 : BitVec 64),
    (s.report.errorType ++ s.report.port ++ s.report.readMode ++ unassigned s 4 1 ++ s.dla ++ unassignedLow s 4 2 ++
      reg s.a 4 : BitVec 64),
    (unassigned s 5 6 ++ s.xa ++ s.vl ++ unassignedLow s 5 3 ++ s.cln ++ reg s.a 5 : BitVec 64),
    (BitVec.ofBool s.vnu ++ BitVec.ofBool s.ws ++ unassigned s 6 7 ++ packFlags (s.flags.union causes) ++
      packModes s.modes ++ reg s.a 6 : BitVec 64),
    (unassigned s 7 31 ++ BitVec.ofBool s.ce ++ reg s.a 7 : BitVec 64),
    reg s.s 0, reg s.s 1, reg s.s 2, reg s.s 3, reg s.s 4, reg s.s 5, reg s.s 6, reg s.s 7 ]

/-- `Unpack(words)` into the exchange registers; PN, VNU, WS, the report and the unassigned bits are ignored
(60 R504, D39). -/
def unpackPackage (ws : List Word) (s : State) : State :=
  let w (n : Nat) : Word := ws.getD n 0
  let a (n : Nat) : AWord := (w n).extractLsb' 0 32
  { s with
    a := #v[a 0, a 1, a 2, a 3, a 4, a 5, a 6, a 7]
    s := #v[w 8, w 9, w 10, w 11, w 12, w 13, w 14, w 15]
    p := (w 0).extractLsb' 32 24
    iba := (w 1).extractLsb' 34 22
    ila := (w 2).extractLsb' 34 22
    dba := (w 3).extractLsb' 34 22
    dla := (w 4).extractLsb' 34 22
    xa := (w 5).extractLsb' 48 10
    vl := (w 5).extractLsb' 41 7
    cln := (w 5).extractLsb' 32 6
    flags := unpackFlags ((w 6).extractLsb' 44 11)
    modes := unpackModes ((w 6).extractLsb' 32 12)
    ce := (w 7).getLsbD 32 }

/-- Steps (6) and (7) of the exchange: WS and the hold clear, cache, own cache-invalidate request and instruction buffers empty
(60 R505). The processor status follows by itself, being read from the registers (10 R47). -/
def afterExchange (s : State) : State :=
  { s with
    ws := false
    held := none
    cache := []
    ivcPending := setCpuBit s.ivcPending s.pn.toNat false
    ibufStored := [] }

/-- Steps (2) to (7) of the exchange, with the words to be saved: read all sixteen words, write the saved ones over
them, load what was read (60 R505). A package that may not run has no meaning (60 R505 step 5, R524). -/
def swapPackage (xa : BitVec 10) (saved : List Word) (s : State) : Result :=
  let base := xa.toNat * 16
  if memWords s.sys ≤ base + 15 then .refused .packageBeyondMemory
  else
    match readWords s.mem base 16 with
    | none => .fault .memoryNoValue
    | some new =>
      let s' := unpackPackage new { s with mem := writeWords s.mem base saved }
      if s'.vl.toNat = 0 ∨ 64 < s'.vl.toNat then .refused .vlOutOfRange
      else if s'.modes.mm = false ∧ s'.flags ≠ Flags.none then .refused .flagsPending
      else .next (afterExchange s')

/-- Taking an exception, and returning from one: the exchange sequence with the causes given (60 R505). P already holds
the value to be saved (60 R507). -/
def exchange (causes : Flags) (s : State) : Result :=
  let s1 := drawReport (performAll s)
  swapPackage s1.xa (packPackage s1 causes) { s1 with seq := s1.seq + 8 }

/-- The first exchange of a CPU: XA is `OPEN(BOOT_XA)` and the words saved are draws (70 R551). -/
def deadstart (s : State) : Result :=
  swapPackage bootXa ((List.range 16).map fun w => Config.draw (s.seq + w))
    { performAll s with seq := s.seq + 16, running := true }

/-! ## Asynchronous requests (60 R509 to R515, R521, R526) -/

/-- The SEI bit of a CPU as the JS logic holds it (10 R47). -/
def statusSei (s : State) (n : Fin 32) : Bool := if n.val = s.pn.toNat then s.modes.sei else s.peers[n].sei

/-- Whether a number is that of a CPU of the system, this one among them (60 R536). -/
def isCpu (s : State) (n : Fin 32) : Bool := n.val == s.pn.toNat || decide (n.val < ncpu s.sys)

/-- Whether some CPU of the system has SEI. -/
def someSei (s : State) : Bool := (List.finRange 32).any fun n => isCpu s n && statusSei s n

/-- `OPEN(IO_INT_TARGET)`: whether an I/O interrupt goes to this CPU: one with SEI when any has it, else any; among
several the choice is free (60 R521, log 28). -/
def ioTarget (s : State) : Bool :=
  let candidate (n : Fin 32) : Bool := isCpu s n && (statusSei s n || !someSei s)
  let self : Bool := s.modes.sei || !someSei s
  self && (!(List.finRange 32).any (fun n => n.val != s.pn.toNat && candidate n) || Config.ioTargetsSelf s.seq)

/-- Whether some channel requests an interrupt (60 R521). -/
def channelRequests (s : State) : Bool := 
  (List.finRange 64).any fun n => channelExists s.sys n && s.chans[n].int

/-- The asynchronous requests pending for this CPU and not inhibited (60 R509, R510, R512). -/
def pendingCauses (s : State) : Flags :=
  if s.modes.mm && !takenInMonitor then Flags.none
  else
    { Flags.none with
      icp := s.ipiPending.getLsbD s.pn.toNat
      ioi := channelRequests s && ioTarget s
      pci := s.pciEnable && s.pciRequest }

/-- `raise`: an exchange for a synchronous cause, with the requests pending at the same time (00 R10, 60 R512). -/
def raise (cause : Flags) (s : State) : Result := exchange (cause.union (pendingCauses s)) s

/-! ## Privilege (60 R533, R534) -/

/-- A privileged instruction: its effect with MM = 1; with MM = 0 `OPEN(PRIV_NONMONITOR)` at `nop`, the alternative the
spec gives an effect (log 11, unsafe). -/
def privileged (s : State) (effect : Result) : Result := if s.modes.mm then effect else .next (advance 1 s)

/-! ## Channels and CPU numbers (40 R160 d, R169, R189) -/

/-- `chan(n)`: the configured channel of a number (60 R529). -/
def channelOf (y : System) (n : AWord) : Option (Fin 64) :=
  if h : 16 ≤ n.toNat ∧ n.toNat < 80 then
    if channelExists y ⟨n.toNat - 16, by omega⟩ then some ⟨n.toNat - 16, by omega⟩ else none
  else none

/-- A command to the channel a register names. -/
def commandNamed (number : AWord) (c : ChannelCommand) (s : State) : Result :=
  match channelOf s.sys number with
  | some n => .next { advance 1 s with chans := setChannel s n (commandChannel n c) }
  | none => .refused .noSuchChannel

/-! ## Shared registers (40 R160 b, c; 20 R106) -/

/-- `cl`: the cluster CLN selects, cluster number c being entry c - 1 (10 R43). -/
def clusterOf (s : State) : Option (Fin Config.maxClusters) :=
  if h : 1 ≤ s.cln.toNat ∧ s.cln.toNat ≤ nclusters s.sys then
    some ⟨s.cln.toNat - 1, by have := nclusters_le s.sys; omega⟩
  else none

/-- `SharedWrite`: the write joins this CPU's queue, with the cluster it is issued to (40 R160 c). -/
def sharedWrite (s : State) (write : Fin Config.maxClusters → SharedWrite) : Result :=
  match clusterOf s with
  | some c => .next { advance 1 s with sharedQueue := s.sharedQueue ++ [write c] }
  | none => .refused .noCluster

/-- `SharedRead`: wait until this CPU's queue is empty, then read the cluster (40 R160 c). -/
def sharedRead (s : State) (use : Cluster → State → Result) : Result :=
  match clusterOf s with
  | some c => let s' := deliverAll s; use s'.clusters[c] s'
  | none => .refused .noCluster

/-- `OPEN(DEADLOCK_COND)`, once this CPU waits: every other CPU whose CLN is this CPU's is waiting on a semaphore
(60 R517, log 27). -/
def othersWait (s : State) : Bool :=
  (List.finRange 32).all fun n =>
    n.val == s.pn.toNat || !isCpu s n || s.peers[n].cln != s.cln || s.peers[n].ws

/-- Whether a CPU that tests semaphore n finds it set and deadlocks (60 R517). -/
def deadlockOn (n : Fin 32) (s : State) : Bool :=
  match clusterOf s with
  | some c => (deliverAll s).clusters[c].sm.getLsbD n.val && othersWait s
  | none => false

/-- Test and set (40 R199): on a clear semaphore set it and go on; on a set one hold with WS = 1 and P unchanged, or
take the deadlock exchange. Test and set are one action on the one copy of SM. -/
def testAndSet (n : Fin 32) (s : State) : Result :=
  match clusterOf s with
  | none => .refused .noCluster
  | some c =>
    let s' := deliverAll s
    if s'.clusters[c].sm.getLsbD n.val then
      let waiting := { s' with ws := true, held := some n }
      if othersWait s then raise causeDl waiting else .next waiting
    else
      .next
        { advance 1 s' with
          clusters := applyShared s'.clusters (.semaphore c n true), ws := false, held := none }

/-! ## Floating point (44 R330, 47 R450) -/

/-- The check after a floating-point instruction whose result is written and whose P has moved (44 R330). -/
def finishFloat (error : Bool) (s : State) : Result :=
  if s.modes.ifp && error then raise causeFpe s else .next s

/-- A scalar floating-point result with its check. -/
def floatS (i : BitVec 3) (x : Word) (error : Bool) (s : State) : Result :=
  finishFloat error { advance 1 s with s := setReg s.s i x }

/-! ## Vector results (46 R410) -/

/-- The V registers with the elements of one below VL replaced. -/
def vectorSet (s : State) (i : BitVec 3) (f : Nat → Word) : Vector (Vector Word 64) 8 :=
  setReg s.v i (vectorWith s.vl (reg s.v i) f)

/-- Write the elements of a V register below VL and go on (46 R410). -/
def finishV (i : BitVec 3) (f : Nat → Word) (s : State) : Result :=
  .next { advance 1 s with v := vectorSet s i f }

/-- Whether some element below VL satisfies a test. -/
def someElement (s : State) (test : Nat → Bool) : Bool := (List.range s.vl.toNat).any test

/-- A vector floating-point result with its check over all elements (47 R450). -/
def floatV (i : BitVec 3) (f : Nat → Word) (error : Nat → Bool) (s : State) : Result :=
  finishFloat (someElement s error) { advance 1 s with v := vectorSet s i f }

/-- A mask test: VM becomes the test of the elements of Vj below VL (47 R466). -/
def maskTest (j : BitVec 3) (test : Word → Bool) (s : State) : Result :=
  .next { advance 1 s with vm := maskWith s.vl fun e => test (element s j e) }

/-- A mask test that also packs the numbers of the elements found into Vi (47 R466); i = j has no meaning (D33). -/
def maskTestIndexed (i j : BitVec 3) (test : Word → Bool) (s : State) : Result :=
  if i = j then .refused .compressedIndexInPlace
  else
    .next
      { advance 1 s with
        vm := maskWith s.vl fun e => test (element s j e)
        v := setReg s.v i (compressedInto (reg s.v i) (testedElements s.vl fun e => test (element s j e))) }

/-- The double vector left shift (46 R421). -/
def doubleLeftV (i j : BitVec 3) (count : AWord) (s : State) : Result :=
  if i = j then .refused .doubleShiftInPlace
  else if 64 ≤ count.toNat then .refused .doubleShiftCount
  else
    finishV i
      (fun e => doubleLeft (element s j e) (if e + 1 = s.vl.toNat then 0 else element s j (e + 1)) count.toNat) s

/-- The double vector right shift (46 R422). -/
def doubleRightV (i j : BitVec 3) (count : AWord) (s : State) : Result :=
  if i = j then .refused .doubleShiftInPlace
  else if 64 ≤ count.toNat then .refused .doubleShiftCount
  else
    finishV i (fun e => doubleRight (if e = 0 then 0 else element s j (e - 1)) (element s j e) count.toNat) s

/-! ## Scalar memory (45 R394) -/

/-- `ea = trunc_32(Ah_(h) + exp)` (45 R394). -/
def effectiveAddress (h : BitVec 3) (exp : AWord) (s : State) : AWord := readAh s h + exp

/-- What a memory instruction's outcome is: a next state, or the operand range error taken with P after the instruction,
from the state `before` that the abandoned instruction leaves (45 R394, 60 R507, R514). -/
def finishMemory (parcels : Nat) (before : State) (x : Access State) : Result :=
  match x with
  | .done s => .next (advance parcels s)
  | .rangeError => raise causeOre (advance parcels before)
  | .fault f => .fault f
  | .refused r => .refused r

/-- A scalar load into a register (45 R390, R392). -/
def scalarLoad (l : AWord) (write : Word → State → State) (s : State) : Result :=
  finishMemory 3 s ((scalarRead l s).andThen fun r => .done (write r.1 r.2))

/-- A scalar store (45 R391, R393). -/
def scalarStore (l : AWord) (v : Word) (s : State) : Result := finishMemory 3 s (scalarWrite l v s)

/-- An A register loaded from the low 32 bits of a word (45 R390). -/
def writeA (i : BitVec 3) (w : Word) (s : State) : State := { s with a := setReg s.a i (w.setWidth 32) }

/-- An S register loaded from a word (45 R392). -/
def writeS (i : BitVec 3) (w : Word) (s : State) : State := { s with s := setReg s.s i w }

/-! ## Block and vector memory (42 R263, 47 R478)

Element e of a transfer is at the logical address `at e`. The elements are referenced in order, and the first reference
that fails decides (20 R111): a range error with IOR = 1 abandons the instruction, whatever would have come after it, and
any other failure stops. Of an abandoned instruction each destination keeps its old value or has its new one by a free
choice, and the operand range error is taken with P after the instruction (D55, log 31). -/

/-- Read the words of a transfer in order; the other agents may act between two of them (20 R111, D32). -/
def readElements (at_ : Nat → AWord) : List Nat → State → Access (List (Nat × Word) × State)
  | [], s => .done ([], s)
  | e :: es, s =>
    (uncachedRead (at_ e) s).andThen fun r =>
      (readElements at_ es (environment r.2)).andThen fun q => .done ((e, r.1) :: q.1, q.2)

/-- Write the words of a transfer in order (20 R111). -/
def writeElements (write : AWord → Word → State → Access State) (at_ : Nat → AWord) (value : Nat → Word) :
    List Nat → State → Access State
  | [], s => .done s
  | e :: es, s => (write (at_ e) (value e) s).andThen fun s' => writeElements write at_ value es s'

/-- The words an abandoned load can have read: those before and after the range error that a reference finds (D55). -/
def readSome (at_ : Nat → AWord) : List Nat → State → List (Nat × Word) × State
  | [], s => ([], s)
  | e :: es, s =>
    match uncachedRead (at_ e) s with
    | .done r => ((e, r.1) :: (readSome at_ es (environment r.2)).1, (readSome at_ es (environment r.2)).2)
    | _ => readSome at_ es s

/-- The writes an abandoned store has made: those of the chosen elements that a reference could make (D55). -/
def writeSome (write : AWord → Word → State → Access State) (at_ : Nat → AWord) (value : Nat → Word)
    (chosen : Nat → Bool) : List Nat → State → State
  | [], s => s
  | e :: es, s =>
    match write (at_ e) (value e) s with
    | .done s' => writeSome write at_ value chosen es (if chosen e then s' else s)
    | _ => writeSome write at_ value chosen es s

/-- The words read, stored into their destinations. -/
def putAll (put : Nat → Word → State → State) (ws : List (Nat × Word)) (s : State) : State :=
  ws.foldl (fun t q => put q.1 q.2 t) s

/-- What an abandoned load leaves: each destination, one for each element, with its old or its new value (D55). -/
def abandonedLoad (n : Nat) (at_ : Nat → AWord) (put : Nat → Word → State → State) (s : State) : State :=
  let r := readSome at_ (List.range n) s
  { putAll put (r.1.filter fun q => Config.partialDone s.seq q.1) r.2 with seq := r.2.seq + 1 }

/-- What an abandoned store leaves: each destination, a word of memory, with its old or its new value; the elements
stored to one word are chosen together (D55). -/
def abandonedStore (n : Nat) (at_ : Nat → AWord) (value : Nat → Word)
    (write : AWord → Word → State → Access State) (s : State) : State :=
  { writeSome write at_ value (fun e => Config.partialDone s.seq (absoluteOf s (at_ e))) (List.range n) s with
    seq := s.seq + 1 }

/-- A load of n words, each stored into its destination by `put` (42 R263, 47 R478). -/
def transferIn (n : Nat) (at_ : Nat → AWord) (put : Nat → Word → State → State) (s : State) : Result :=
  finishMemory 1 (abandonedLoad n at_ put s)
    ((readElements at_ (List.range n) s).andThen fun r => .done (putAll put r.1 r.2))

/-- A store of n words (42 R263, 47 R478). -/
def transferOut (n : Nat) (at_ : Nat → AWord) (value : Nat → Word)
    (write : AWord → Word → State → Access State) (s : State) : Result :=
  finishMemory 1 (abandonedStore n at_ value write s) (writeElements write at_ value (List.range n) s)

/-- The address of word e of a block transfer, and of a strided reference: `trunc_32(A[0] + e * stride)`
(42 R263, 47 R478). -/
def strided (s : State) (stride : AWord) (e : Nat) : AWord := reg s.a 0 + BitVec.ofNat 32 e * stride

/-- The address of element e of an indexed reference: the low 32 bits of the index element (47 R478, D57). -/
def indexed (s : State) (k : BitVec 3) (e : Nat) : AWord := reg s.a 0 + (element s k e).setWidth 32

/-- The register of word e of a block transfer: `(jk + e) mod 64` (42 R263, D20). -/
def blockRegister (jk : BitVec 6) (e : Nat) : BitVec 6 := jk + BitVec.ofNat 6 e

/-- A block transfer's count; one above 64 has no meaning (42 R263, D20). -/
def withCount (i : BitVec 3) (s : State) (go : Nat → Result) : Result :=
  if 64 < (reg s.a i).toNat then .refused .blockCount else go (reg s.a i).toNat

/-- 034: memory to B registers (42 R264). -/
def blockLoadB (i : BitVec 3) (jk : BitVec 6) (s : State) : Result :=
  withCount i s fun n =>
    transferIn n (strided s 1)
      (fun e w t => { t with b := setReg64 t.b (blockRegister jk e) (w.setWidth 32) }) s

/-- 035: B registers to memory (42 R265). -/
def blockStoreB (i : BitVec 3) (jk : BitVec 6) (s : State) : Result :=
  withCount i s fun n =>
    transferOut n (strided s 1) (fun e => (reg64 s.b (blockRegister jk e)).setWidth 64) blockWrite s

/-- 036: memory to T registers (42 R266). -/
def blockLoadT (i : BitVec 3) (jk : BitVec 6) (s : State) : Result :=
  withCount i s fun n =>
    transferIn n (strided s 1) (fun e w t => { t with t := setReg64 t.t (blockRegister jk e) w }) s

/-- 037: T registers to memory (42 R267). -/
def blockStoreT (i : BitVec 3) (jk : BitVec 6) (s : State) : Result :=
  withCount i s fun n =>
    transferOut n (strided s 1) (fun e => reg64 s.t (blockRegister jk e)) blockWrite s

/-- One element of a V register replaced. -/
def putElement (i : BitVec 3) (e : Nat) (w : Word) (t : State) : State :=
  { t with v := setReg t.v i (setReg64 (reg t.v i) (BitVec.ofNat 6 e) w) }

/-- A vector load from the addresses given (47 R474, R475). -/
def vectorLoad (i : BitVec 3) (at_ : Nat → AWord) (s : State) : Result :=
  transferIn s.vl.toNat at_ (putElement i) s

/-- A vector store to the addresses given (47 R476, R477). -/
def vectorStore (j : BitVec 3) (at_ : Nat → AWord) (s : State) : Result :=
  transferOut s.vl.toNat at_ (element s j) vectorWrite s

end Sys2Proof.Machine
end

