-- ==== Sys2Proof/Machine/ARegister.lean ====
section
/-! DEFINITION. Operation codes 020 to 037: A and B registers, shared B, channel reads, block transfers
(spec/42_a_register.md). -/

namespace Sys2Proof.Machine

/-- `020i00mn` (42 R241). -/
def execAExp (i : BitVec 3) (exp : BitVec 32) (s : State) : Result := finishA i exp 3 s

/-- `021i00mn` (42 R242). -/
def execAExpNot (i : BitVec 3) (exp : BitVec 32) (s : State) : Result := finishA i (~~~exp) 3 s

/-- `022ijk` (42 R243). -/
def execAShort (i : BitVec 3) (jk : BitVec 6) (s : State) : Result := finishA i (jk.setWidth 32) 1 s

/-- `023ij0` (42 R244). -/
def execAFromS (i j : BitVec 3) (s : State) : Result := finishA i ((readSj s j).setWidth 32) 1 s

/-- `023i01` (42 R245). -/
def execAFromVl (i : BitVec 3) (s : State) : Result := finishA i (s.vl.setWidth 32) 1 s

/-- `024ijk` (42 R246). -/
def execAFromB (i : BitVec 3) (jk : BitVec 6) (s : State) : Result := finishA i (reg64 s.b jk) 1 s

/-- `025ijk` (42 R247). -/
def execBFromA (i : BitVec 3) (jk : BitVec 6) (s : State) : Result :=
  .next { advance 1 s with b := setReg64 s.b jk (reg s.a i) }

/-- `026ij0` (42 R248). -/
def execAPop (i j : BitVec 3) (s : State) : Result := finishA i (BitVec.ofNat 32 (popCount (readSj s j))) 1 s

/-- `026ij1` (42 R249). -/
def execAParity (i j : BitVec 3) (s : State) : Result := finishA i (BitVec.ofNat 32 (popCount (readSj s j) % 2)) 1 s

/-- `026ij7` (42 R250). -/
def execAFromSb (i j : BitVec 3) (s : State) : Result := sharedRead s fun c t => finishA i (reg c.sb j) 1 t

/-- `027ij0` (42 R251). -/
def execALzc (i j : BitVec 3) (s : State) : Result := finishA i (BitVec.ofNat 32 (leadingZeros (readSj s j))) 1 s

/-- `027ij7` (42 R252). -/
def execSbFromA (i j : BitVec 3) (s : State) : Result := sharedWrite s fun c => .sb c j (reg s.a i)

/-- `030ijk` (42 R253). -/
def execAAdd (i j k : BitVec 3) (s : State) : Result := finishA i (readAj s j + readAk s k) 1 s

/-- `031ijk` (42 R254). -/
def execASub (i j k : BitVec 3) (s : State) : Result := finishA i (readAj s j - readAk s k) 1 s

/-- `032ijk` (42 R255). -/
def execAMul (i j k : BitVec 3) (s : State) : Result := finishA i (readAj s j * readAk s k) 1 s

/-- `033i00` (42 R256). -/
def execAChanInt (i : BitVec 3) (s : State) : Result := finishA i (channelPriority s.sys s.chans) 1 s

/-- `033ij0` (42 R257). -/
def execAChanAddr (i j : BitVec 3) (s : State) : Result :=
  match channelOf s.sys (reg s.a j) with
  | some n => finishA i s.chans[n].ca 1 s
  | none => .refused .noSuchChannel

/-- `033ij1` (42 R258). -/
def execAChanErr (i j : BitVec 3) (s : State) : Result :=
  match channelOf s.sys (reg s.a j) with
  | some n => finishA i ((BitVec.ofBool s.chans[n].err).setWidth 32) 1 s
  | none => .refused .noSuchChannel

/-- `034ijk` (42 R264). -/
def execLoadB (i : BitVec 3) (jk : BitVec 6) (s : State) : Result := blockLoadB i jk s

/-- `035ijk` (42 R265). -/
def execStoreB (i : BitVec 3) (jk : BitVec 6) (s : State) : Result := blockStoreB i jk s

/-- `036ijk` (42 R266). -/
def execLoadT (i : BitVec 3) (jk : BitVec 6) (s : State) : Result := blockLoadT i jk s

/-- `037ijk` (42 R267). -/
def execStoreT (i : BitVec 3) (jk : BitVec 6) (s : State) : Result := blockStoreT i jk s

/-- `030i0k`, a spelling of `030ijk` (30 R134, 42 R253). -/
def execACopy (i k : BitVec 3) (s : State) : Result := finishA i (readAk s k) 1 s

/-- `030ij0`, a spelling of `030ijk` (30 R134, 42 R253). -/
def execAInc (i j : BitVec 3) (s : State) : Result := finishA i (readAj s j + 1) 1 s

/-- `031i00`, a spelling of `031ijk` (30 R134, 42 R254). -/
def execAMinusOne (i : BitVec 3) (s : State) : Result := finishA i (-1) 1 s

/-- `031i0k`, a spelling of `031ijk` (30 R134, 42 R254). -/
def execANeg (i k : BitVec 3) (s : State) : Result := finishA i (-readAk s k) 1 s

/-- `031ij0`, a spelling of `031ijk` (30 R134, 42 R254). -/
def execADec (i j : BitVec 3) (s : State) : Result := finishA i (readAj s j - 1) 1 s

/-- `034ijk`, a spelling of `034ijk` (30 R134, 42 R264). -/
def execLoadBZero (i : BitVec 3) (jk : BitVec 6) (s : State) : Result := blockLoadB i jk s

/-- `035ijk`, a spelling of `035ijk` (30 R134, 42 R265). -/
def execStoreBZero (i : BitVec 3) (jk : BitVec 6) (s : State) : Result := blockStoreB i jk s

/-- `036ijk`, a spelling of `036ijk` (30 R134, 42 R266). -/
def execLoadTZero (i : BitVec 3) (jk : BitVec 6) (s : State) : Result := blockLoadT i jk s

/-- `037ijk`, a spelling of `037ijk` (30 R134, 42 R267). -/
def execStoreTZero (i : BitVec 3) (jk : BitVec 6) (s : State) : Result := blockStoreT i jk s

end Sys2Proof.Machine
end

