-- ==== Sys2Proof/Machine/Branch.lean ====
section
/-! DEFINITION. Operation codes 005 to 017: jumps and conditional branches
(spec/41_branch.md). -/

namespace Sys2Proof.Machine

/-- A conditional branch: P becomes the target, or goes on by two parcels (41 R220). -/
def branchIf (taken : Bool) (target : BitVec 24) (s : State) : Result :=
  if taken then .next { s with p := target } else .next (advance 2 s)

/-- `0050jk` (41 R221). -/
def execJumpB (jk : BitVec 6) (s : State) : Result := .next { s with p := (reg64 s.b jk).setWidth 24 }

/-- `006ijkm` (41 R222). -/
def execJump (target : BitVec 24) (s : State) : Result := .next { s with p := target }

/-- `007ijkm` (41 R223). -/
def execReturnJump (target : BitVec 24) (s : State) : Result :=
  .next { s with b := setReg64 s.b 0 ((s.p + 2).setWidth 32), p := target }

/-- `010ijkm` (41 R224). -/
def execJaz (target : BitVec 24) (s : State) : Result := branchIf (reg s.a 0 = 0) target s

/-- `011ijkm` (41 R225). -/
def execJan (target : BitVec 24) (s : State) : Result := branchIf (reg s.a 0 ≠ 0) target s

/-- `012ijkm` (41 R226). -/
def execJap (target : BitVec 24) (s : State) : Result := branchIf ((reg s.a 0).msb = false) target s

/-- `013ijkm` (41 R227). -/
def execJam (target : BitVec 24) (s : State) : Result := branchIf ((reg s.a 0).msb = true) target s

/-- `014ijkm` (41 R228). -/
def execJsz (target : BitVec 24) (s : State) : Result := branchIf (reg s.s 0 = 0) target s

/-- `015ijkm` (41 R229). -/
def execJsn (target : BitVec 24) (s : State) : Result := branchIf (reg s.s 0 ≠ 0) target s

/-- `016ijkm` (41 R230). -/
def execJsp (target : BitVec 24) (s : State) : Result := branchIf ((reg s.s 0).msb = false) target s

/-- `017ijkm` (41 R231). -/
def execJsm (target : BitVec 24) (s : State) : Result := branchIf ((reg s.s 0).msb = true) target s

end Sys2Proof.Machine
end

