-- ==== Sys2Proof/Machine/Control.lean ====
section
/-! DEFINITION. Operation codes 000 to 004: exits, the monitor group, modes, VL, VM, semaphores
(spec/40_control_monitor.md). -/

namespace Sys2Proof.Machine

/-- The semaphore a well-formed `jk` names: 0 to 31 (90 C5). -/
def semaphoreOf (jk : BitVec 6) : Fin 32 := ⟨jk.toNat % 32, Nat.mod_lt _ (by omega)⟩

/-- `000000` (40 R161). -/
def execErr (s : State) : Result := raise causeEex (advance 1 s)

/-- `0010jk` (40 R162). -/
def execCa (j k : BitVec 3) (s : State) : Result :=
  privileged s (commandNamed (readAj s j) (.setCurrent (readAk s k)) s)

/-- `001000` (40 R163). -/
def execPass (s : State) : Result := .next (advance 1 s)

/-- `0011jk` (40 R164). -/
def execCl (j k : BitVec 3) (s : State) : Result :=
  privileged s (commandNamed (readAj s j) (.setLimit (readAk s k)) s)

/-- `0012j0` (40 R165). -/
def execCi (j : BitVec 3) (s : State) : Result := privileged s (commandNamed (readAj s j) .clear s)

/-- `0012j1` (40 R166). -/
def execMc (j : BitVec 3) (s : State) : Result := privileged s (commandNamed (readAj s j) .masterClear s)

/-- `0013j0` (40 R167). -/
def execXa (j : BitVec 3) (s : State) : Result := privileged s (.next { advance 1 s with xa := xaOf (readAj s j) })

/-- `0014j0` (40 R168). -/
def execRt (j : BitVec 3) (s : State) : Result := privileged s (.next { advance 1 s with rtc := readSj s j })

/-- `0014j1` (40 R169). -/
def execSip (j : BitVec 3) (s : State) : Result :=
  privileged s
    (if (readAj s j).toNat < ncpu s.sys then
      .next { advance 1 s with ipiPending := setCpuBit s.ipiPending (readAj s j).toNat true }
    else .refused .noSuchCpu)

/-- `001402` (40 R170). -/
def execCipi (s : State) : Result :=
  privileged s (.next { advance 1 s with ipiPending := setCpuBit s.ipiPending s.pn.toNat false })

/-- `0014j3` (40 R171). -/
def execCln (j : BitVec 3) (s : State) : Result :=
  privileged s (.next { advance 1 s with cln := (readAj s j).extractLsb' 0 6 })

/-- `0014j4` (40 R172). -/
def execPci (j : BitVec 3) (s : State) : Result := privileged s (.next { advance 1 s with ii := readSj s j })

/-- `001405` (40 R173). -/
def execCci (s : State) : Result := privileged s (.next { advance 1 s with pciRequest := false })

/-- `001406` (40 R174). -/
def execEci (s : State) : Result := privileged s (.next { advance 1 s with pciEnable := true })

/-- `001407` (40 R175). -/
def execDci (s : State) : Result := privileged s (.next { advance 1 s with pciEnable := false })

/-- `0015j0` (40 R182). -/
def execSelectPerf (j : BitVec 3) (s : State) : Result :=
  privileged s (.next { advance 1 s with perf := Config.perfStep (.select j) s.perf })

/-- `001501` (40 R183). `refuse` in monitor mode (log 37). -/
def execDisablePortA (s : State) : Result := privileged s (.refused .maintenanceMode)

/-- `001511` (40 R184). `refuse` in monitor mode (log 37). -/
def execDisablePortB (s : State) : Result := privileged s (.refused .maintenanceMode)

/-- `001521` (40 R185). `refuse` in monitor mode (log 37). -/
def execDisablePortD (s : State) : Result := privileged s (.refused .maintenanceMode)

/-- `001541` (40 R186). `refuse` in monitor mode (log 37). -/
def execSwapCheckBytes (s : State) : Result := privileged s (.refused .maintenanceMode)

/-- `001551` (40 R187). `refuse` in monitor mode (log 37). -/
def execReplaceCheckBits (s : State) : Result := privileged s (.refused .maintenanceMode)

/-- `0016j1` (40 R189). -/
def execIvc (j : BitVec 3) (s : State) : Result :=
  if (readAj s j).toNat < ncpu s.sys then
    if ivcSelfSync && (readAj s j).toNat == s.pn.toNat then .next { advance 1 s with cache := [] }
    else .next { advance 1 s with ivcPending := setCpuBit s.ivcPending (readAj s j).toNat true }
  else .refused .noSuchCpu

/-- `00200k` (40 R190). -/
def execSetVl (k : BitVec 3) (s : State) : Result := .next { advance 1 s with vl := vlOf (readAk s k) }

/-- `002100` (40 R191). -/
def execEfi (s : State) : Result := .next { advance 1 s with modes := { s.modes with ifp := true } }

/-- `002200` (40 R192). -/
def execDfi (s : State) : Result := .next { advance 1 s with modes := { s.modes with ifp := false } }

/-- `002300` (40 R193). -/
def execEri (s : State) : Result := .next { advance 1 s with modes := { s.modes with ior := true } }

/-- `002400` (40 R194). -/
def execDri (s : State) : Result := .next { advance 1 s with modes := { s.modes with ior := false } }

/-- `002500` (40 R195). -/
def execDbm (s : State) : Result := .next { advance 1 s with modes := { s.modes with bdm := false } }

/-- `002600` (40 R196). -/
def execEbm (s : State) : Result := .next { advance 1 s with modes := { s.modes with bdm := true } }

/-- `002700` (40 R197). -/
def execCmr (s : State) : Result := .next (advance 1 (performAll s))

/-- `0030j0` (40 R198). -/
def execSetVm (j : BitVec 3) (s : State) : Result := .next { advance 1 s with vm := readSj s j }

/-- `0034jk` (40 R199). -/
def execSmTestSet (jk : BitVec 6) (s : State) : Result := testAndSet (semaphoreOf jk) s

/-- `0036jk` (40 R200). -/
def execSmClear (jk : BitVec 6) (s : State) : Result := sharedWrite s fun c => .semaphore c (semaphoreOf jk) false

/-- `0037jk` (40 R201). -/
def execSmSet (jk : BitVec 6) (s : State) : Result := sharedWrite s fun c => .semaphore c (semaphoreOf jk) true

/-- `004000` (40 R202). -/
def execEx (s : State) : Result := raise causeNex (advance 1 s)

/-- `001401`, a spelling of `0014j1` (30 R134, 40 R169). -/
def execSipi (s : State) : Result :=
  privileged s (.next { advance 1 s with ipiPending := setCpuBit s.ipiPending 0 true })

/-- `002000`, a spelling of `00200k` (30 R134, 40 R190). -/
def execSetVlOne (s : State) : Result := .next { advance 1 s with vl := 1 }

/-- `003000`, a spelling of `0030j0` (30 R134, 40 R198). -/
def execClearVm (s : State) : Result := .next { advance 1 s with vm := 0 }

end Sys2Proof.Machine
end

