-- ==== Sys2Proof/Machine/SFloat.lean ====
section
/-! DEFINITION. Operation codes 062 to 077: scalar floating point and transfers
(spec/44_s_register_float_transfer.md). -/

namespace Sys2Proof.Machine

/-- `062ijk` (44 R331). -/
def execSFadd (i j k : BitVec 3) (s : State) : Result :=
  floatS i (Config.fadd (readSj s j) (readSk s k)) (Config.fpError .fadd (readSj s j) (readSk s k)) s

/-- `063ijk` (44 R332). -/
def execSFsub (i j k : BitVec 3) (s : State) : Result :=
  floatS i (Config.fsub (readSj s j) (readSk s k)) (Config.fpError .fsub (readSj s j) (readSk s k)) s

/-- `064ijk` (44 R333). -/
def execSFmul (i j k : BitVec 3) (s : State) : Result :=
  floatS i (Config.fmul (readSj s j) (readSk s k)) (Config.fpError .fmul (readSj s j) (readSk s k)) s

/-- `065ijk` (44 R334). -/
def execSFmulH (i j k : BitVec 3) (s : State) : Result :=
  floatS i (Config.fmulh (readSj s j) (readSk s k)) (Config.fpError .fmulh (readSj s j) (readSk s k)) s

/-- `066ijk` (44 R335). -/
def execSFmulR (i j k : BitVec 3) (s : State) : Result :=
  floatS i (Config.fmulr (readSj s j) (readSk s k)) (Config.fpError .fmulr (readSj s j) (readSk s k)) s

/-- `067ijk` (44 R336). -/
def execSRecipIter (i j k : BitVec 3) (s : State) : Result :=
  floatS i (Config.frecipIter (readSj s j) (readSk s k)) (Config.fpError .frecipIter (readSj s j) (readSk s k)) s

/-- `070ij0` (44 R337). -/
def execSRecip (i j : BitVec 3) (s : State) : Result :=
  floatS i (Config.frecipApprox (readSj s j)) (Config.fpError .frecipApprox (readSj s j) 0) s

/-- `071i0k` (44 R341). -/
def execSFromA (i k : BitVec 3) (s : State) : Result := finishS i ((readAk s k).setWidth 64) 1 s

/-- `071i1k` (44 R342). -/
def execSFromASigned (i k : BitVec 3) (s : State) : Result := finishS i ((readAk s k).signExtend 64) 1 s

/-- `071i2k` (44 R343). -/
def execSFloatFromA (i k : BitVec 3) (s : State) : Result := finishS i (aToFloat (readAk s k)) 1 s

/-- `071i30` (44 R344). -/
def execSThreeQuarters (i : BitVec 3) (s : State) : Result := finishS i (fconst 3) 1 s

/-- `071i40` (44 R345). -/
def execSHalf (i : BitVec 3) (s : State) : Result := finishS i (fconst 4) 1 s

/-- `071i50` (44 R346). -/
def execSOne (i : BitVec 3) (s : State) : Result := finishS i (fconst 5) 1 s

/-- `071i60` (44 R347). -/
def execSTwo (i : BitVec 3) (s : State) : Result := finishS i (fconst 6) 1 s

/-- `071i70` (44 R348). -/
def execSFour (i : BitVec 3) (s : State) : Result := finishS i (fconst 7) 1 s

/-- `072i00` (44 R350). -/
def execSFromRt (i : BitVec 3) (s : State) : Result := finishS i s.rtc 1 s

/-- `072i02` (44 R351). -/
def execSFromSm (i : BitVec 3) (s : State) : Result := sharedRead s fun c t => finishS i (smImage c.sm) 1 t

/-- `072ij3` (44 R352). -/
def execSFromSt (i j : BitVec 3) (s : State) : Result := sharedRead s fun c t => finishS i (reg c.st j) 1 t

/-- `073i00` (44 R353). -/
def execSFromVm (i : BitVec 3) (s : State) : Result := finishS i s.vm 1 s

/-- `073i01` (44 R354). SR0 is a draw (log 12). -/
def execSFromSr0 (i : BitVec 3) (s : State) : Result :=
  .next { advance 1 s with s := setReg s.s i (Config.draw s.seq), seq := s.seq + 1 }

/-- `073i02` (44 R355). -/
def execSmFromS (i : BitVec 3) (s : State) : Result := sharedWrite s fun c => .semaphores c (smUnimage (reg s.s i))

/-- `073ij3` (44 R356). -/
def execStFromS (i j : BitVec 3) (s : State) : Result := sharedWrite s fun c => .st c j (reg s.s i)

/-- `073i11` (44 R357). The value is a draw (log 36). -/
def execReadPerf (i : BitVec 3) (s : State) : Result :=
  privileged s
    (.next
      { advance 1 s with
        s := setReg s.s i (Config.draw s.seq), perf := Config.perfStep .read s.perf, seq := s.seq + 1 })

/-- `073i21` (44 R358). -/
def execIncPerfUpper (_i : BitVec 3) (s : State) : Result :=
  privileged s (.next { advance 1 s with perf := Config.perfStep .upper s.perf })

/-- `073i31` (44 R359). No maintenance mode is ever set (log 37). -/
def execClearMaint (_i : BitVec 3) (s : State) : Result :=
  privileged s (.next { advance 1 s with maint := Maintenance.off })

/-- `073i61` (44 R360). -/
def execIncPerfLower (_i : BitVec 3) (s : State) : Result :=
  privileged s (.next { advance 1 s with perf := Config.perfStep .lower s.perf })

/-- `074ijk` (44 R361). -/
def execSFromT (i : BitVec 3) (jk : BitVec 6) (s : State) : Result := finishS i (reg64 s.t jk) 1 s

/-- `075ijk` (44 R362). -/
def execTFromS (i : BitVec 3) (jk : BitVec 6) (s : State) : Result :=
  .next { advance 1 s with t := setReg64 s.t jk (reg s.s i) }

/-- `076ijk` (44 R363). -/
def execSFromV (i j k : BitVec 3) (s : State) : Result := finishS i (element s j (elementOf (readAk s k)).toNat) 1 s

/-- `077ijk` (44 R364). -/
def execVFromS (i j k : BitVec 3) (s : State) : Result :=
  .next { advance 1 s with v := setReg s.v i (setReg64 (reg s.v i) (elementOf (readAk s k)) (readSj s j)) }

/-- `062i0k`, a spelling of `062ijk` (30 R134, 44 R331). -/
def execSFnormalize (i k : BitVec 3) (s : State) : Result :=
  floatS i (Config.fadd 0 (readSk s k)) (Config.fpError .fadd 0 (readSk s k)) s

/-- `063i0k`, a spelling of `063ijk` (30 R134, 44 R332). -/
def execSFnegate (i k : BitVec 3) (s : State) : Result :=
  floatS i (Config.fsub 0 (readSk s k)) (Config.fpError .fsub 0 (readSk s k)) s

/-- `077i0k`, a spelling of `077ijk` (30 R134, 44 R364). -/
def execVClearElement (i k : BitVec 3) (s : State) : Result :=
  .next { advance 1 s with v := setReg s.v i (setReg64 (reg s.v i) (elementOf (readAk s k)) 0) }

end Sys2Proof.Machine
end

