-- ==== Sys2Proof/Machine/SInteger.lean ====
section
/-! DEFINITION. Operation codes 040 to 061: S immediates, masks, logical operations, shifts, integer arithmetic
(spec/43_s_register_integer.md). -/

namespace Sys2Proof.Machine

/-- `040i00mn` (43 R281). -/
def execSExp (i : BitVec 3) (exp : BitVec 32) (s : State) : Result := finishS i (exp.setWidth 64) 3 s

/-- `041i00mn` (43 R282). -/
def execSExpNot (i : BitVec 3) (exp : BitVec 32) (s : State) : Result := finishS i (~~~(exp.setWidth 64)) 3 s

/-- `042ijk` (43 R283). -/
def execSMaskRight (i : BitVec 3) (jk : BitVec 6) (s : State) : Result := finishS i (maskRight jk) 1 s

/-- `043ijk` (43 R284). -/
def execSMaskLeft (i : BitVec 3) (jk : BitVec 6) (s : State) : Result := finishS i (maskLeft jk) 1 s

/-- `044ijk` (43 R285). -/
def execSAnd (i j k : BitVec 3) (s : State) : Result := finishS i (readSj s j &&& readSk s k) 1 s

/-- `045ijk` (43 R286). -/
def execSAndNot (i j k : BitVec 3) (s : State) : Result := finishS i (readSj s j &&& ~~~readSk s k) 1 s

/-- `046ijk` (43 R287). -/
def execSXor (i j k : BitVec 3) (s : State) : Result := finishS i (readSj s j ^^^ readSk s k) 1 s

/-- `047ijk` (43 R288). -/
def execSXnor (i j k : BitVec 3) (s : State) : Result := finishS i (~~~(readSj s j ^^^ readSk s k)) 1 s

/-- `050ijk` (43 R289). -/
def execSMerge (i j k : BitVec 3) (s : State) : Result :=
  finishS i ((reg s.s i &&& ~~~readSk s k) ||| (readSj s j &&& readSk s k)) 1 s

/-- `051ijk` (43 R290). -/
def execSOr (i j k : BitVec 3) (s : State) : Result := finishS i (readSj s j ||| readSk s k) 1 s

/-- `052ijk` (43 R291). -/
def execS0ShiftLeft (i : BitVec 3) (jk : BitVec 6) (s : State) : Result :=
  finishS 0 (shiftLeft (reg s.s i) jk.toNat) 1 s

/-- `053ijk` (43 R292). -/
def execS0ShiftRight (i : BitVec 3) (jk : BitVec 6) (s : State) : Result :=
  finishS 0 (shiftRight (reg s.s i) (64 - jk.toNat)) 1 s

/-- `054ijk` (43 R293). -/
def execSShiftLeft (i : BitVec 3) (jk : BitVec 6) (s : State) : Result :=
  finishS i (shiftLeft (reg s.s i) jk.toNat) 1 s

/-- `055ijk` (43 R294). -/
def execSShiftRight (i : BitVec 3) (jk : BitVec 6) (s : State) : Result :=
  finishS i (shiftRight (reg s.s i) (64 - jk.toNat)) 1 s

/-- `056ijk` (43 R295). -/
def execSDoubleLeft (i j k : BitVec 3) (s : State) : Result :=
  finishS i (doubleLeft (reg s.s i) (readSj s j) (readAk s k).toNat) 1 s

/-- `057ijk` (43 R296). -/
def execSDoubleRight (i j k : BitVec 3) (s : State) : Result :=
  finishS i (doubleRight (readSj s j) (reg s.s i) (readAk s k).toNat) 1 s

/-- `060ijk` (43 R297). -/
def execSAdd (i j k : BitVec 3) (s : State) : Result := finishS i (readSj s j + readSk s k) 1 s

/-- `061ijk` (43 R298). -/
def execSSub (i j k : BitVec 3) (s : State) : Result := finishS i (readSj s j - readSk s k) 1 s

/-- `042ijk`, a spelling of `042ijk` (30 R134, 43 R283). -/
def execSZeroesLeft (i : BitVec 3) (jk : BitVec 6) (s : State) : Result := finishS i (maskRight jk) 1 s

/-- `042i77`, a spelling of `042ijk` (30 R134, 43 R283). -/
def execSIntOne (i : BitVec 3) (s : State) : Result := finishS i 1 1 s

/-- `042i00`, a spelling of `042ijk` (30 R134, 43 R283). -/
def execSMinusOne (i : BitVec 3) (s : State) : Result := finishS i (-1) 1 s

/-- `043ijk`, a spelling of `043ijk` (30 R134, 43 R284). -/
def execSZeroesRight (i : BitVec 3) (jk : BitVec 6) (s : State) : Result := finishS i (maskLeft jk) 1 s

/-- `043i00`, a spelling of `043ijk` (30 R134, 43 R284). -/
def execSClear (i : BitVec 3) (s : State) : Result := finishS i 0 1 s

/-- `044ij0`, a spelling of `044ijk` (30 R134, 43 R285). -/
def execSSignOf (i j : BitVec 3) (s : State) : Result := finishS i (readSj s j &&& signBit) 1 s

/-- `044ij0`, a spelling of `044ijk` (30 R134, 43 R285). -/
def execSSignOf2 (i j : BitVec 3) (s : State) : Result := finishS i (readSj s j &&& signBit) 1 s

/-- `045ij0`, a spelling of `045ijk` (30 R134, 43 R286). -/
def execSClearSign (i j : BitVec 3) (s : State) : Result := finishS i (readSj s j &&& ~~~signBit) 1 s

/-- `046ij0`, a spelling of `046ijk` (30 R134, 43 R287). -/
def execSToggleSign (i j : BitVec 3) (s : State) : Result := finishS i (readSj s j ^^^ signBit) 1 s

/-- `046ij0`, a spelling of `046ijk` (30 R134, 43 R287). -/
def execSToggleSign2 (i j : BitVec 3) (s : State) : Result := finishS i (readSj s j ^^^ signBit) 1 s

/-- `047i0k`, a spelling of `047ijk` (30 R134, 43 R288). -/
def execSNot (i k : BitVec 3) (s : State) : Result := finishS i (~~~readSk s k) 1 s

/-- `047ij0`, a spelling of `047ijk` (30 R134, 43 R288). -/
def execSXnorSign (i j : BitVec 3) (s : State) : Result := finishS i (~~~(readSj s j ^^^ signBit)) 1 s

/-- `047ij0`, a spelling of `047ijk` (30 R134, 43 R288). -/
def execSXnorSign2 (i j : BitVec 3) (s : State) : Result := finishS i (~~~(readSj s j ^^^ signBit)) 1 s

/-- `047i00`, a spelling of `047ijk` (30 R134, 43 R288). -/
def execSNotSign (i : BitVec 3) (s : State) : Result := finishS i (~~~signBit) 1 s

/-- `050ij0`, a spelling of `050ijk` (30 R134, 43 R289). -/
def execSMergeSign (i j : BitVec 3) (s : State) : Result :=
  finishS i ((reg s.s i &&& ~~~signBit) ||| (readSj s j &&& signBit)) 1 s

/-- `051i0k`, a spelling of `051ijk` (30 R134, 43 R290). -/
def execSCopy (i k : BitVec 3) (s : State) : Result := finishS i (readSk s k) 1 s

/-- `051ij0`, a spelling of `051ijk` (30 R134, 43 R290). -/
def execSSetSign (i j : BitVec 3) (s : State) : Result := finishS i (readSj s j ||| signBit) 1 s

/-- `051ij0`, a spelling of `051ijk` (30 R134, 43 R290). -/
def execSSetSign2 (i j : BitVec 3) (s : State) : Result := finishS i (readSj s j ||| signBit) 1 s

/-- `051i00`, a spelling of `051ijk` (30 R134, 43 R290). -/
def execSSignBit (i : BitVec 3) (s : State) : Result := finishS i signBit 1 s

/-- `056ij0`, a spelling of `056ijk` (30 R134, 43 R295). -/
def execSDoubleLeftOne (i j : BitVec 3) (s : State) : Result := finishS i (doubleLeft (reg s.s i) (readSj s j) 1) 1 s

/-- `056i0k`, a spelling of `056ijk` (30 R134, 43 R295). -/
def execSLeftByA (i k : BitVec 3) (s : State) : Result := finishS i (shiftLeft (reg s.s i) (readAk s k).toNat) 1 s

/-- `057ij0`, a spelling of `057ijk` (30 R134, 43 R296). -/
def execSDoubleRightOne (i j : BitVec 3) (s : State) : Result :=
  finishS i (doubleRight (readSj s j) (reg s.s i) 1) 1 s

/-- `057i0k`, a spelling of `057ijk` (30 R134, 43 R296). -/
def execSRightByA (i k : BitVec 3) (s : State) : Result := finishS i (shiftRight (reg s.s i) (readAk s k).toNat) 1 s

/-- `061i0k`, a spelling of `061ijk` (30 R134, 43 R298). -/
def execSNeg (i k : BitVec 3) (s : State) : Result := finishS i (-readSk s k) 1 s

end Sys2Proof.Machine
end

