-- ==== Sys2Proof/Machine/ScalarMemory.lean ====
section
/-! DEFINITION. Operation codes 10h to 13h: scalar loads and stores
(spec/45_scalar_memory.md). -/

namespace Sys2Proof.Machine

/-- `10hi00mn` (45 R390). -/
def execLoadA (h i : BitVec 3) (exp : BitVec 32) (s : State) : Result :=
  scalarLoad (effectiveAddress h exp s) (writeA i) s

/-- `11hi00mn` (45 R391). -/
def execStoreA (h i : BitVec 3) (exp : BitVec 32) (s : State) : Result :=
  scalarStore (effectiveAddress h exp s) ((reg s.a i).setWidth 64) s

/-- `12hi00mn` (45 R392). -/
def execLoadS (h i : BitVec 3) (exp : BitVec 32) (s : State) : Result :=
  scalarLoad (effectiveAddress h exp s) (writeS i) s

/-- `13hi00mn` (45 R393). -/
def execStoreS (h i : BitVec 3) (exp : BitVec 32) (s : State) : Result :=
  scalarStore (effectiveAddress h exp s) (reg s.s i) s

/-- `100i00mn`, a spelling of `10hi00mn` (30 R134, 45 R390). -/
def execLoadAAbs (i : BitVec 3) (exp : BitVec 32) (s : State) : Result := scalarLoad exp (writeA i) s

/-- `100i00mn`, a spelling of `10hi00mn` (30 R134, 45 R390). -/
def execLoadAAbs2 (i : BitVec 3) (exp : BitVec 32) (s : State) : Result := scalarLoad exp (writeA i) s

/-- `10hi0000`, a spelling of `10hi00mn` (30 R134, 45 R390). -/
def execLoadAInd (h i : BitVec 3) (s : State) : Result := scalarLoad (readAh s h) (writeA i) s

/-- `110i00mn`, a spelling of `11hi00mn` (30 R134, 45 R391). -/
def execStoreAAbs (i : BitVec 3) (exp : BitVec 32) (s : State) : Result := scalarStore exp ((reg s.a i).setWidth 64) s

/-- `110i00mn`, a spelling of `11hi00mn` (30 R134, 45 R391). -/
def execStoreAAbs2 (i : BitVec 3) (exp : BitVec 32) (s : State) : Result :=
  scalarStore exp ((reg s.a i).setWidth 64) s

/-- `11hi0000`, a spelling of `11hi00mn` (30 R134, 45 R391). -/
def execStoreAInd (h i : BitVec 3) (s : State) : Result := scalarStore (readAh s h) ((reg s.a i).setWidth 64) s

/-- `120i00mn`, a spelling of `12hi00mn` (30 R134, 45 R392). -/
def execLoadSAbs (i : BitVec 3) (exp : BitVec 32) (s : State) : Result := scalarLoad exp (writeS i) s

/-- `120i00mn`, a spelling of `12hi00mn` (30 R134, 45 R392). -/
def execLoadSAbs2 (i : BitVec 3) (exp : BitVec 32) (s : State) : Result := scalarLoad exp (writeS i) s

/-- `12hi0000`, a spelling of `12hi00mn` (30 R134, 45 R392). -/
def execLoadSInd (h i : BitVec 3) (s : State) : Result := scalarLoad (readAh s h) (writeS i) s

/-- `130i00mn`, a spelling of `13hi00mn` (30 R134, 45 R393). -/
def execStoreSAbs (i : BitVec 3) (exp : BitVec 32) (s : State) : Result := scalarStore exp (reg s.s i) s

/-- `130i00mn`, a spelling of `13hi00mn` (30 R134, 45 R393). -/
def execStoreSAbs2 (i : BitVec 3) (exp : BitVec 32) (s : State) : Result := scalarStore exp (reg s.s i) s

/-- `13hi0000`, a spelling of `13hi00mn` (30 R134, 45 R393). -/
def execStoreSInd (h i : BitVec 3) (s : State) : Result := scalarStore (readAh s h) (reg s.s i) s

end Sys2Proof.Machine
end

