-- ==== Sys2Proof/Machine/VectorFloat.lean ====
section
/-! DEFINITION. Operation codes 160 to 174: vector floating point, 32-bit product, population counts
(spec/47_vector_float_mask_memory.md). -/

namespace Sys2Proof.Machine

/-- `160ijk` (47 R451). -/
def execVsFmul (i j k : BitVec 3) (s : State) : Result :=
  floatV i (fun e => Config.fmul (readSj s j) (element s k e))
    (fun e => Config.fpError .fmul (readSj s j) (element s k e)) s

/-- `161ijk` (47 R452). -/
def execVvFmul (i j k : BitVec 3) (s : State) : Result :=
  floatV i (fun e => Config.fmul (element s j e) (element s k e))
    (fun e => Config.fpError .fmul (element s j e) (element s k e)) s

/-- `162ijk` (47 R453). -/
def execVsFmulH (i j k : BitVec 3) (s : State) : Result :=
  floatV i (fun e => Config.fmulh (readSj s j) (element s k e))
    (fun e => Config.fpError .fmulh (readSj s j) (element s k e)) s

/-- `163ijk` (47 R454). -/
def execVvFmulH (i j k : BitVec 3) (s : State) : Result :=
  floatV i (fun e => Config.fmulh (element s j e) (element s k e))
    (fun e => Config.fpError .fmulh (element s j e) (element s k e)) s

/-- `164ijk` (47 R455). -/
def execVsFmulR (i j k : BitVec 3) (s : State) : Result :=
  floatV i (fun e => Config.fmulr (readSj s j) (element s k e))
    (fun e => Config.fpError .fmulr (readSj s j) (element s k e)) s

/-- `165ijk` (47 R456). -/
def execVvFmulR (i j k : BitVec 3) (s : State) : Result :=
  floatV i (fun e => Config.fmulr (element s j e) (element s k e))
    (fun e => Config.fpError .fmulr (element s j e) (element s k e)) s

/-- `166ijk` (47 R457). -/
def execVsImul32 (i j k : BitVec 3) (s : State) : Result :=
  finishV i (fun e => Config.imul32 (readSj s j) (element s k e)) s

/-- `167ijk` (47 R458). -/
def execVvRecipIter (i j k : BitVec 3) (s : State) : Result :=
  floatV i (fun e => Config.frecipIter (element s j e) (element s k e))
    (fun e => Config.fpError .frecipIter (element s j e) (element s k e)) s

/-- `170ijk` (47 R459). -/
def execVsFadd (i j k : BitVec 3) (s : State) : Result :=
  floatV i (fun e => Config.fadd (readSj s j) (element s k e))
    (fun e => Config.fpError .fadd (readSj s j) (element s k e)) s

/-- `171ijk` (47 R460). -/
def execVvFadd (i j k : BitVec 3) (s : State) : Result :=
  floatV i (fun e => Config.fadd (element s j e) (element s k e))
    (fun e => Config.fpError .fadd (element s j e) (element s k e)) s

/-- `172ijk` (47 R461). -/
def execVsFsub (i j k : BitVec 3) (s : State) : Result :=
  floatV i (fun e => Config.fsub (readSj s j) (element s k e))
    (fun e => Config.fpError .fsub (readSj s j) (element s k e)) s

/-- `173ijk` (47 R462). -/
def execVvFsub (i j k : BitVec 3) (s : State) : Result :=
  floatV i (fun e => Config.fsub (element s j e) (element s k e))
    (fun e => Config.fpError .fsub (element s j e) (element s k e)) s

/-- `174ij0` (47 R463). -/
def execVRecip (i j : BitVec 3) (s : State) : Result :=
  floatV i (fun e => Config.frecipApprox (element s j e))
    (fun e => Config.fpError .frecipApprox (element s j e) 0) s

/-- `174ij1` (47 R464). -/
def execVPop (i j : BitVec 3) (s : State) : Result :=
  finishV i (fun e => BitVec.ofNat 64 (popCount (element s j e))) s

/-- `174ij2` (47 R465). -/
def execVParity (i j : BitVec 3) (s : State) : Result :=
  finishV i (fun e => BitVec.ofNat 64 (popCount (element s j e) % 2)) s

/-- `170i0k`, a spelling of `170ijk` (30 R134, 47 R459). -/
def execVFnormalize (i k : BitVec 3) (s : State) : Result :=
  floatV i (fun e => Config.fadd 0 (element s k e))
    (fun e => Config.fpError .fadd 0 (element s k e)) s

/-- `172i0k`, a spelling of `172ijk` (30 R134, 47 R461). -/
def execVFnegate (i k : BitVec 3) (s : State) : Result :=
  floatV i (fun e => Config.fsub 0 (element s k e))
    (fun e => Config.fpError .fsub 0 (element s k e)) s

end Sys2Proof.Machine
end

