-- ==== Sys2Proof/Machine/VectorInteger.lean ====
section
/-! DEFINITION. Operation codes 140 to 157: vector logical, shift and integer operations
(spec/46_vector_logical_shift_integer.md). -/

namespace Sys2Proof.Machine

/-- `140ijk` (46 R411). -/
def execVsAnd (i j k : BitVec 3) (s : State) : Result := finishV i (fun e => readSj s j &&& element s k e) s

/-- `141ijk` (46 R412). -/
def execVvAnd (i j k : BitVec 3) (s : State) : Result := finishV i (fun e => element s j e &&& element s k e) s

/-- `142ijk` (46 R413). -/
def execVsOr (i j k : BitVec 3) (s : State) : Result := finishV i (fun e => readSj s j ||| element s k e) s

/-- `143ijk` (46 R414). -/
def execVvOr (i j k : BitVec 3) (s : State) : Result := finishV i (fun e => element s j e ||| element s k e) s

/-- `144ijk` (46 R415). -/
def execVsXor (i j k : BitVec 3) (s : State) : Result := finishV i (fun e => readSj s j ^^^ element s k e) s

/-- `145ijk` (46 R416). -/
def execVvXor (i j k : BitVec 3) (s : State) : Result := finishV i (fun e => element s j e ^^^ element s k e) s

/-- `146ijk` (46 R417). -/
def execVsMerge (i j k : BitVec 3) (s : State) : Result :=
  finishV i (fun e => if maskBit s e then readSj s j else element s k e) s

/-- `147ijk` (46 R418). -/
def execVvMerge (i j k : BitVec 3) (s : State) : Result :=
  finishV i (fun e => if maskBit s e then element s j e else element s k e) s

/-- `150ijk` (46 R419). -/
def execVShiftLeft (i j k : BitVec 3) (s : State) : Result :=
  finishV i (fun e => shiftLeft (element s j e) (readAk s k).toNat) s

/-- `151ijk` (46 R420). -/
def execVShiftRight (i j k : BitVec 3) (s : State) : Result :=
  finishV i (fun e => shiftRight (element s j e) (readAk s k).toNat) s

/-- `152ijk` (46 R421). -/
def execVDoubleLeft (i j k : BitVec 3) (s : State) : Result := doubleLeftV i j (readAk s k) s

/-- `153ijk` (46 R422). -/
def execVDoubleRight (i j k : BitVec 3) (s : State) : Result := doubleRightV i j (readAk s k) s

/-- `154ijk` (46 R423). -/
def execVsAdd (i j k : BitVec 3) (s : State) : Result := finishV i (fun e => readSj s j + element s k e) s

/-- `155ijk` (46 R424). -/
def execVvAdd (i j k : BitVec 3) (s : State) : Result := finishV i (fun e => element s j e + element s k e) s

/-- `156ijk` (46 R425). -/
def execVsSub (i j k : BitVec 3) (s : State) : Result := finishV i (fun e => readSj s j - element s k e) s

/-- `157ijk` (46 R426). -/
def execVvSub (i j k : BitVec 3) (s : State) : Result := finishV i (fun e => element s j e - element s k e) s

/-- `142i0k`, a spelling of `142ijk` (30 R134, 46 R413). -/
def execVCopy (i k : BitVec 3) (s : State) : Result := finishV i (fun e => element s k e) s

/-- `145iii`, a spelling of `145ijk` (30 R134, 46 R416). -/
def execVClear (i : BitVec 3) (s : State) : Result := finishV i (fun _ => 0) s

/-- `146i0k`, a spelling of `146ijk` (30 R134, 46 R417). -/
def execVMergeZero (i k : BitVec 3) (s : State) : Result :=
  finishV i (fun e => if maskBit s e then 0 else element s k e) s

/-- `150ij0`, a spelling of `150ijk` (30 R134, 46 R419). -/
def execVLeftOne (i j : BitVec 3) (s : State) : Result := finishV i (fun e => shiftLeft (element s j e) 1) s

/-- `151ij0`, a spelling of `151ijk` (30 R134, 46 R420). -/
def execVRightOne (i j : BitVec 3) (s : State) : Result := finishV i (fun e => shiftRight (element s j e) 1) s

/-- `152ij0`, a spelling of `152ijk` (30 R134, 46 R421). -/
def execVDoubleLeftOne (i j : BitVec 3) (s : State) : Result := doubleLeftV i j 1 s

/-- `153ij0`, a spelling of `153ijk` (30 R134, 46 R422). -/
def execVDoubleRightOne (i j : BitVec 3) (s : State) : Result := doubleRightV i j 1 s

/-- `156i0k`, a spelling of `156ijk` (30 R134, 46 R425). -/
def execVNeg (i k : BitVec 3) (s : State) : Result := finishV i (fun e => -element s k e) s

end Sys2Proof.Machine
end

