-- ==== Sys2Proof/Machine/VectorMemory.lean ====
section
/-! DEFINITION. Operation codes 175 to 177: vector mask tests, loads and stores
(spec/47_vector_float_mask_memory.md). -/

namespace Sys2Proof.Machine

/-- Condition Z (47 R466). -/
def isZero (w : Word) : Bool := w == 0
/-- Condition N (47 R466). -/
def isNonzero (w : Word) : Bool := w != 0
/-- Condition P: bit 63 is 0 (47 R466). -/
def isPlus (w : Word) : Bool := !w.msb
/-- Condition M: bit 63 is 1 (47 R466, 90 C9). -/
def isMinus (w : Word) : Bool := w.msb

/-- `1750j0` (47 R467). -/
def execVmZero (j : BitVec 3) (s : State) : Result := maskTest j isZero s

/-- `1750j1` (47 R468). -/
def execVmNonzero (j : BitVec 3) (s : State) : Result := maskTest j isNonzero s

/-- `1750j2` (47 R469). -/
def execVmPlus (j : BitVec 3) (s : State) : Result := maskTest j isPlus s

/-- `1750j3` (47 R470). -/
def execVmMinus (j : BitVec 3) (s : State) : Result := maskTest j isMinus s

/-- `175ij4` (47 R471). -/
def execVmZeroIdx (i j : BitVec 3) (s : State) : Result := maskTestIndexed i j isZero s

/-- `175ij5` (47 R472). -/
def execVmNonzeroIdx (i j : BitVec 3) (s : State) : Result := maskTestIndexed i j isNonzero s

/-- `175ij6` (47 R473). -/
def execVmPlusIdx (i j : BitVec 3) (s : State) : Result := maskTestIndexed i j isPlus s

/-- `175ij7` (47 R479). -/
def execVmMinusIdx (i j : BitVec 3) (s : State) : Result := maskTestIndexed i j isMinus s

/-- `176i0k` (47 R474). -/
def execVLoad (i k : BitVec 3) (s : State) : Result := vectorLoad i (strided s (readAk s k)) s

/-- `176i1k` (47 R475). -/
def execVGather (i k : BitVec 3) (s : State) : Result := vectorLoad i (indexed s k) s

/-- `1770jk` (47 R476). -/
def execVStore (j k : BitVec 3) (s : State) : Result := vectorStore j (strided s (readAk s k)) s

/-- `1771jk` (47 R477). -/
def execVScatter (j k : BitVec 3) (s : State) : Result := vectorStore j (indexed s k) s

/-- `176i00`, a spelling of `176i0k` (30 R134, 47 R474). -/
def execVLoadOne (i : BitVec 3) (s : State) : Result := vectorLoad i (strided s 1) s

/-- `1770j0`, a spelling of `1770jk` (30 R134, 47 R476). -/
def execVStoreOne (j : BitVec 3) (s : State) : Result := vectorStore j (strided s 1) s

end Sys2Proof.Machine
end

