-- ==== Sys2Proof/Machine/Dispatch.lean ====
section
/-! DEFINITION. One arm for each constructor of `Instr`, each one call of that instruction's meaning. -/

namespace Sys2Proof.Machine

def exec (i : Instr) (s : State) : Host.Outcome State Fault Refusal :=
  match i with
  | .err => Sys2Proof.Machine.execErr s
  | .ca j k => Sys2Proof.Machine.execCa j k s
  | .pass => Sys2Proof.Machine.execPass s
  | .cl j k => Sys2Proof.Machine.execCl j k s
  | .ci j => Sys2Proof.Machine.execCi j s
  | .mc j => Sys2Proof.Machine.execMc j s
  | .xa j => Sys2Proof.Machine.execXa j s
  | .rt j => Sys2Proof.Machine.execRt j s
  | .sip j => Sys2Proof.Machine.execSip j s
  | .cipi => Sys2Proof.Machine.execCipi s
  | .cln j => Sys2Proof.Machine.execCln j s
  | .pci j => Sys2Proof.Machine.execPci j s
  | .cci => Sys2Proof.Machine.execCci s
  | .eci => Sys2Proof.Machine.execEci s
  | .dci => Sys2Proof.Machine.execDci s
  | .selectPerf j => Sys2Proof.Machine.execSelectPerf j s
  | .disablePortA => Sys2Proof.Machine.execDisablePortA s
  | .disablePortB => Sys2Proof.Machine.execDisablePortB s
  | .disablePortD => Sys2Proof.Machine.execDisablePortD s
  | .swapCheckBytes => Sys2Proof.Machine.execSwapCheckBytes s
  | .replaceCheckBits => Sys2Proof.Machine.execReplaceCheckBits s
  | .ivc j => Sys2Proof.Machine.execIvc j s
  | .setVl k => Sys2Proof.Machine.execSetVl k s
  | .efi => Sys2Proof.Machine.execEfi s
  | .dfi => Sys2Proof.Machine.execDfi s
  | .eri => Sys2Proof.Machine.execEri s
  | .dri => Sys2Proof.Machine.execDri s
  | .dbm => Sys2Proof.Machine.execDbm s
  | .ebm => Sys2Proof.Machine.execEbm s
  | .cmr => Sys2Proof.Machine.execCmr s
  | .setVm j => Sys2Proof.Machine.execSetVm j s
  | .smTestSet jk => Sys2Proof.Machine.execSmTestSet jk s
  | .smClear jk => Sys2Proof.Machine.execSmClear jk s
  | .smSet jk => Sys2Proof.Machine.execSmSet jk s
  | .ex => Sys2Proof.Machine.execEx s
  | .jumpB jk => Sys2Proof.Machine.execJumpB jk s
  | .jump target => Sys2Proof.Machine.execJump target s
  | .returnJump target => Sys2Proof.Machine.execReturnJump target s
  | .jaz target => Sys2Proof.Machine.execJaz target s
  | .jan target => Sys2Proof.Machine.execJan target s
  | .jap target => Sys2Proof.Machine.execJap target s
  | .jam target => Sys2Proof.Machine.execJam target s
  | .jsz target => Sys2Proof.Machine.execJsz target s
  | .jsn target => Sys2Proof.Machine.execJsn target s
  | .jsp target => Sys2Proof.Machine.execJsp target s
  | .jsm target => Sys2Proof.Machine.execJsm target s
  | .aExp ri exp => Sys2Proof.Machine.execAExp ri exp s
  | .aExpNot ri exp => Sys2Proof.Machine.execAExpNot ri exp s
  | .aShort ri jk => Sys2Proof.Machine.execAShort ri jk s
  | .aFromS ri j => Sys2Proof.Machine.execAFromS ri j s
  | .aFromVl ri => Sys2Proof.Machine.execAFromVl ri s
  | .aFromB ri jk => Sys2Proof.Machine.execAFromB ri jk s
  | .bFromA ri jk => Sys2Proof.Machine.execBFromA ri jk s
  | .aPop ri j => Sys2Proof.Machine.execAPop ri j s
  | .aParity ri j => Sys2Proof.Machine.execAParity ri j s
  | .aFromSb ri j => Sys2Proof.Machine.execAFromSb ri j s
  | .aLzc ri j => Sys2Proof.Machine.execALzc ri j s
  | .sbFromA ri j => Sys2Proof.Machine.execSbFromA ri j s
  | .aAdd ri j k => Sys2Proof.Machine.execAAdd ri j k s
  | .aSub ri j k => Sys2Proof.Machine.execASub ri j k s
  | .aMul ri j k => Sys2Proof.Machine.execAMul ri j k s
  | .aChanInt ri => Sys2Proof.Machine.execAChanInt ri s
  | .aChanAddr ri j => Sys2Proof.Machine.execAChanAddr ri j s
  | .aChanErr ri j => Sys2Proof.Machine.execAChanErr ri j s
  | .loadB ri jk => Sys2Proof.Machine.execLoadB ri jk s
  | .storeB ri jk => Sys2Proof.Machine.execStoreB ri jk s
  | .loadT ri jk => Sys2Proof.Machine.execLoadT ri jk s
  | .storeT ri jk => Sys2Proof.Machine.execStoreT ri jk s
  | .sExp ri exp => Sys2Proof.Machine.execSExp ri exp s
  | .sExpNot ri exp => Sys2Proof.Machine.execSExpNot ri exp s
  | .sMaskRight ri jk => Sys2Proof.Machine.execSMaskRight ri jk s
  | .sMaskLeft ri jk => Sys2Proof.Machine.execSMaskLeft ri jk s
  | .sAnd ri j k => Sys2Proof.Machine.execSAnd ri j k s
  | .sAndNot ri j k => Sys2Proof.Machine.execSAndNot ri j k s
  | .sXor ri j k => Sys2Proof.Machine.execSXor ri j k s
  | .sXnor ri j k => Sys2Proof.Machine.execSXnor ri j k s
  | .sMerge ri j k => Sys2Proof.Machine.execSMerge ri j k s
  | .sOr ri j k => Sys2Proof.Machine.execSOr ri j k s
  | .s0ShiftLeft ri jk => Sys2Proof.Machine.execS0ShiftLeft ri jk s
  | .s0ShiftRight ri jk => Sys2Proof.Machine.execS0ShiftRight ri jk s
  | .sShiftLeft ri jk => Sys2Proof.Machine.execSShiftLeft ri jk s
  | .sShiftRight ri jk => Sys2Proof.Machine.execSShiftRight ri jk s
  | .sDoubleLeft ri j k => Sys2Proof.Machine.execSDoubleLeft ri j k s
  | .sDoubleRight ri j k => Sys2Proof.Machine.execSDoubleRight ri j k s
  | .sAdd ri j k => Sys2Proof.Machine.execSAdd ri j k s
  | .sSub ri j k => Sys2Proof.Machine.execSSub ri j k s
  | .sFadd ri j k => Sys2Proof.Machine.execSFadd ri j k s
  | .sFsub ri j k => Sys2Proof.Machine.execSFsub ri j k s
  | .sFmul ri j k => Sys2Proof.Machine.execSFmul ri j k s
  | .sFmulH ri j k => Sys2Proof.Machine.execSFmulH ri j k s
  | .sFmulR ri j k => Sys2Proof.Machine.execSFmulR ri j k s
  | .sRecipIter ri j k => Sys2Proof.Machine.execSRecipIter ri j k s
  | .sRecip ri j => Sys2Proof.Machine.execSRecip ri j s
  | .sFromA ri k => Sys2Proof.Machine.execSFromA ri k s
  | .sFromASigned ri k => Sys2Proof.Machine.execSFromASigned ri k s
  | .sFloatFromA ri k => Sys2Proof.Machine.execSFloatFromA ri k s
  | .sThreeQuarters ri => Sys2Proof.Machine.execSThreeQuarters ri s
  | .sHalf ri => Sys2Proof.Machine.execSHalf ri s
  | .sOne ri => Sys2Proof.Machine.execSOne ri s
  | .sTwo ri => Sys2Proof.Machine.execSTwo ri s
  | .sFour ri => Sys2Proof.Machine.execSFour ri s
  | .sFromRt ri => Sys2Proof.Machine.execSFromRt ri s
  | .sFromSm ri => Sys2Proof.Machine.execSFromSm ri s
  | .sFromSt ri j => Sys2Proof.Machine.execSFromSt ri j s
  | .sFromVm ri => Sys2Proof.Machine.execSFromVm ri s
  | .sFromSr0 ri => Sys2Proof.Machine.execSFromSr0 ri s
  | .smFromS ri => Sys2Proof.Machine.execSmFromS ri s
  | .stFromS ri j => Sys2Proof.Machine.execStFromS ri j s
  | .readPerf ri => Sys2Proof.Machine.execReadPerf ri s
  | .incPerfUpper ri => Sys2Proof.Machine.execIncPerfUpper ri s
  | .clearMaint ri => Sys2Proof.Machine.execClearMaint ri s
  | .incPerfLower ri => Sys2Proof.Machine.execIncPerfLower ri s
  | .sFromT ri jk => Sys2Proof.Machine.execSFromT ri jk s
  | .tFromS ri jk => Sys2Proof.Machine.execTFromS ri jk s
  | .sFromV ri j k => Sys2Proof.Machine.execSFromV ri j k s
  | .vFromS ri j k => Sys2Proof.Machine.execVFromS ri j k s
  | .loadA h ri exp => Sys2Proof.Machine.execLoadA h ri exp s
  | .storeA h ri exp => Sys2Proof.Machine.execStoreA h ri exp s
  | .loadS h ri exp => Sys2Proof.Machine.execLoadS h ri exp s
  | .storeS h ri exp => Sys2Proof.Machine.execStoreS h ri exp s
  | .vsAnd ri j k => Sys2Proof.Machine.execVsAnd ri j k s
  | .vvAnd ri j k => Sys2Proof.Machine.execVvAnd ri j k s
  | .vsOr ri j k => Sys2Proof.Machine.execVsOr ri j k s
  | .vvOr ri j k => Sys2Proof.Machine.execVvOr ri j k s
  | .vsXor ri j k => Sys2Proof.Machine.execVsXor ri j k s
  | .vvXor ri j k => Sys2Proof.Machine.execVvXor ri j k s
  | .vsMerge ri j k => Sys2Proof.Machine.execVsMerge ri j k s
  | .vvMerge ri j k => Sys2Proof.Machine.execVvMerge ri j k s
  | .vShiftLeft ri j k => Sys2Proof.Machine.execVShiftLeft ri j k s
  | .vShiftRight ri j k => Sys2Proof.Machine.execVShiftRight ri j k s
  | .vDoubleLeft ri j k => Sys2Proof.Machine.execVDoubleLeft ri j k s
  | .vDoubleRight ri j k => Sys2Proof.Machine.execVDoubleRight ri j k s
  | .vsAdd ri j k => Sys2Proof.Machine.execVsAdd ri j k s
  | .vvAdd ri j k => Sys2Proof.Machine.execVvAdd ri j k s
  | .vsSub ri j k => Sys2Proof.Machine.execVsSub ri j k s
  | .vvSub ri j k => Sys2Proof.Machine.execVvSub ri j k s
  | .vsFmul ri j k => Sys2Proof.Machine.execVsFmul ri j k s
  | .vvFmul ri j k => Sys2Proof.Machine.execVvFmul ri j k s
  | .vsFmulH ri j k => Sys2Proof.Machine.execVsFmulH ri j k s
  | .vvFmulH ri j k => Sys2Proof.Machine.execVvFmulH ri j k s
  | .vsFmulR ri j k => Sys2Proof.Machine.execVsFmulR ri j k s
  | .vvFmulR ri j k => Sys2Proof.Machine.execVvFmulR ri j k s
  | .vsImul32 ri j k => Sys2Proof.Machine.execVsImul32 ri j k s
  | .vvRecipIter ri j k => Sys2Proof.Machine.execVvRecipIter ri j k s
  | .vsFadd ri j k => Sys2Proof.Machine.execVsFadd ri j k s
  | .vvFadd ri j k => Sys2Proof.Machine.execVvFadd ri j k s
  | .vsFsub ri j k => Sys2Proof.Machine.execVsFsub ri j k s
  | .vvFsub ri j k => Sys2Proof.Machine.execVvFsub ri j k s
  | .vRecip ri j => Sys2Proof.Machine.execVRecip ri j s
  | .vPop ri j => Sys2Proof.Machine.execVPop ri j s
  | .vParity ri j => Sys2Proof.Machine.execVParity ri j s
  | .vmZero j => Sys2Proof.Machine.execVmZero j s
  | .vmNonzero j => Sys2Proof.Machine.execVmNonzero j s
  | .vmPlus j => Sys2Proof.Machine.execVmPlus j s
  | .vmMinus j => Sys2Proof.Machine.execVmMinus j s
  | .vmZeroIdx ri j => Sys2Proof.Machine.execVmZeroIdx ri j s
  | .vmNonzeroIdx ri j => Sys2Proof.Machine.execVmNonzeroIdx ri j s
  | .vmPlusIdx ri j => Sys2Proof.Machine.execVmPlusIdx ri j s
  | .vmMinusIdx ri j => Sys2Proof.Machine.execVmMinusIdx ri j s
  | .vLoad ri k => Sys2Proof.Machine.execVLoad ri k s
  | .vGather ri k => Sys2Proof.Machine.execVGather ri k s
  | .vStore j k => Sys2Proof.Machine.execVStore j k s
  | .vScatter j k => Sys2Proof.Machine.execVScatter j k s
  | .sipi => Sys2Proof.Machine.execSipi s
  | .setVlOne => Sys2Proof.Machine.execSetVlOne s
  | .clearVm => Sys2Proof.Machine.execClearVm s
  | .aCopy ri k => Sys2Proof.Machine.execACopy ri k s
  | .aInc ri j => Sys2Proof.Machine.execAInc ri j s
  | .aMinusOne ri => Sys2Proof.Machine.execAMinusOne ri s
  | .aNeg ri k => Sys2Proof.Machine.execANeg ri k s
  | .aDec ri j => Sys2Proof.Machine.execADec ri j s
  | .loadBZero ri jk => Sys2Proof.Machine.execLoadBZero ri jk s
  | .storeBZero ri jk => Sys2Proof.Machine.execStoreBZero ri jk s
  | .loadTZero ri jk => Sys2Proof.Machine.execLoadTZero ri jk s
  | .storeTZero ri jk => Sys2Proof.Machine.execStoreTZero ri jk s
  | .sZeroesLeft ri jk => Sys2Proof.Machine.execSZeroesLeft ri jk s
  | .sIntOne ri => Sys2Proof.Machine.execSIntOne ri s
  | .sMinusOne ri => Sys2Proof.Machine.execSMinusOne ri s
  | .sZeroesRight ri jk => Sys2Proof.Machine.execSZeroesRight ri jk s
  | .sClear ri => Sys2Proof.Machine.execSClear ri s
  | .sSignOf ri j => Sys2Proof.Machine.execSSignOf ri j s
  | .sSignOf2 ri j => Sys2Proof.Machine.execSSignOf2 ri j s
  | .sClearSign ri j => Sys2Proof.Machine.execSClearSign ri j s
  | .sToggleSign ri j => Sys2Proof.Machine.execSToggleSign ri j s
  | .sToggleSign2 ri j => Sys2Proof.Machine.execSToggleSign2 ri j s
  | .sNot ri k => Sys2Proof.Machine.execSNot ri k s
  | .sXnorSign ri j => Sys2Proof.Machine.execSXnorSign ri j s
  | .sXnorSign2 ri j => Sys2Proof.Machine.execSXnorSign2 ri j s
  | .sNotSign ri => Sys2Proof.Machine.execSNotSign ri s
  | .sMergeSign ri j => Sys2Proof.Machine.execSMergeSign ri j s
  | .sCopy ri k => Sys2Proof.Machine.execSCopy ri k s
  | .sSetSign ri j => Sys2Proof.Machine.execSSetSign ri j s
  | .sSetSign2 ri j => Sys2Proof.Machine.execSSetSign2 ri j s
  | .sSignBit ri => Sys2Proof.Machine.execSSignBit ri s
  | .sDoubleLeftOne ri j => Sys2Proof.Machine.execSDoubleLeftOne ri j s
  | .sLeftByA ri k => Sys2Proof.Machine.execSLeftByA ri k s
  | .sDoubleRightOne ri j => Sys2Proof.Machine.execSDoubleRightOne ri j s
  | .sRightByA ri k => Sys2Proof.Machine.execSRightByA ri k s
  | .sNeg ri k => Sys2Proof.Machine.execSNeg ri k s
  | .sFnormalize ri k => Sys2Proof.Machine.execSFnormalize ri k s
  | .sFnegate ri k => Sys2Proof.Machine.execSFnegate ri k s
  | .vClearElement ri k => Sys2Proof.Machine.execVClearElement ri k s
  | .loadAAbs ri exp => Sys2Proof.Machine.execLoadAAbs ri exp s
  | .loadAAbs2 ri exp => Sys2Proof.Machine.execLoadAAbs2 ri exp s
  | .loadAInd h ri => Sys2Proof.Machine.execLoadAInd h ri s
  | .storeAAbs ri exp => Sys2Proof.Machine.execStoreAAbs ri exp s
  | .storeAAbs2 ri exp => Sys2Proof.Machine.execStoreAAbs2 ri exp s
  | .storeAInd h ri => Sys2Proof.Machine.execStoreAInd h ri s
  | .loadSAbs ri exp => Sys2Proof.Machine.execLoadSAbs ri exp s
  | .loadSAbs2 ri exp => Sys2Proof.Machine.execLoadSAbs2 ri exp s
  | .loadSInd h ri => Sys2Proof.Machine.execLoadSInd h ri s
  | .storeSAbs ri exp => Sys2Proof.Machine.execStoreSAbs ri exp s
  | .storeSAbs2 ri exp => Sys2Proof.Machine.execStoreSAbs2 ri exp s
  | .storeSInd h ri => Sys2Proof.Machine.execStoreSInd h ri s
  | .vCopy ri k => Sys2Proof.Machine.execVCopy ri k s
  | .vClear ri => Sys2Proof.Machine.execVClear ri s
  | .vMergeZero ri k => Sys2Proof.Machine.execVMergeZero ri k s
  | .vLeftOne ri j => Sys2Proof.Machine.execVLeftOne ri j s
  | .vRightOne ri j => Sys2Proof.Machine.execVRightOne ri j s
  | .vDoubleLeftOne ri j => Sys2Proof.Machine.execVDoubleLeftOne ri j s
  | .vDoubleRightOne ri j => Sys2Proof.Machine.execVDoubleRightOne ri j s
  | .vNeg ri k => Sys2Proof.Machine.execVNeg ri k s
  | .vFnormalize ri k => Sys2Proof.Machine.execVFnormalize ri k s
  | .vFnegate ri k => Sys2Proof.Machine.execVFnegate ri k s
  | .vLoadOne ri => Sys2Proof.Machine.execVLoadOne ri s
  | .vStoreOne j => Sys2Proof.Machine.execVStoreOne j s

end Sys2Proof.Machine
end

