-- ==== Sys2Proof/Machine/Fetch.lean ====
section
/-! DEFINITION. Fetching the parcels of an instruction through the instruction buffers (30 R136, 20 R88, R108). -/

namespace Sys2Proof.Machine

/-- The absolute address of the word that holds a parcel, before the limit is looked at: `IAddr(q[23:2])` (20 R88). -/
def instructionWord (s : State) (q : BitVec 24) : Nat := s.iba.toNat * blockWords + q.toNat / 4

/-- Parcel 0 of a word is its bits 63:48 (20 R85). -/
def parcelOf (w : Word) (n : Nat) : Parcel := w.extractLsb' (48 - 16 * n) 16

/-- One parcel. Outside the instruction limit it is a program range error (20 R88); a word stored into since the last
exchange has no meaning (20 R108). -/
def fetchParcel (s : State) (q : BitVec 24) : Access Parcel :=
  let a := instructionWord s q
  if s.ila.toNat * blockWords ≤ a then .rangeError
  else if memWords s.sys ≤ a then .fault .memoryAbsent
  else if s.ibufStored.contains a then .refused .staleInstruction
  else
    match readWord s.mem a with
    | some w => .done (parcelOf w (q.toNat % 4))
    | none => .fault .memoryNoValue

/-- Parcels at rising addresses, each modulo 2^24 (30 R136). -/
def fetchParcels (s : State) (q : BitVec 24) : Nat → Access (List Parcel)
  | 0 => .done []
  | n + 1 => (fetchParcel s q).andThen fun p => (fetchParcels s (q + 1) n).andThen fun ps => .done (p :: ps)

/-- The instruction at P: its first parcel, then the others its length asks for, then its row (30 R136). A first parcel
that is no row has no meaning whatever follows it, and its length does not matter (30 R123, R129). That this is looked at
before the other parcels are fetched is DEDUCED (log 53), safe. -/
def fetchInstr (s : State) : Access Instr :=
  (fetchParcel s s.p).andThen fun p =>
    match unlistedFirst p with
    | some why => .refused (.unlisted why)
    | none =>
      (fetchParcels s (s.p + 1) (parcelCount p - 1)).andThen fun ps =>
        match decode (p :: ps) with
        | .ok i => .done i
        | .error why => .refused (.unlisted why)

/-- A word with one of its parcels replaced. -/
def withParcel (w : Word) (n : Nat) (p : Parcel) : Word :=
  (w &&& ~~~((0xFFFF#64) <<< (48 - 16 * n))) ||| (p.setWidth 64 <<< (48 - 16 * n))

/-- One parcel stored where the fetch finds it; the rest of its word stays, or is 0 where it held no value. -/
def placeParcel (s : State) (q : BitVec 24) (p : Parcel) : State :=
  let a := instructionWord s q
  { s with
    mem := writeWord s.mem a (withParcel ((readWord s.mem a).getD 0) (q.toNat % 4) p)
    ibufStored := s.ibufStored.filter fun b => b != a }

/-- Three parcels of a table word stored at P. -/
def placeTableWord (s : State) (nbits w : Nat) : State :=
  placeParcel (placeParcel (placeParcel s s.p (tableParcel nbits w 0)) (s.p + 1) (tableParcel nbits w 1)) (s.p + 2)
    (tableParcel nbits w 2)

/-- What follows a fetch: the instruction's meaning, or the program range error with the P that failed
(60 R507, R516). -/
def issue (s : State) : Result :=
  match fetchInstr s with
  | .done i => exec i s
  | .rangeError => raise causePre s
  | .fault f => .fault f
  | .refused r => .refused r

/-- Whether the deadlock command reaches a CPU that holds (60 R517). -/
def stuck (s : State) : Bool :=
  match s.held with
  | some n => deadlockOn n s
  | none => false

/-- The CPU goes on: a hold tries its test and set again and fetches nothing (40 R199, 60 R538, log 49), and otherwise the
instruction at P issues. -/
def resume (s : State) : Result :=
  match s.held with
  | some n => testAndSet n s
  | none => issue s

/-- One step: the other agents act, then the CPU makes its deadstart exchange if it has not run, or takes the requests
pending, or goes on (70 R551, 60 R509, 30 R136). The deadlock of a CPU that holds takes the requests with it (60 R512). -/
def cycle (s0 : State) : Result :=
  let s := environment s0
  if !s.running then deadstart s
  else if pendingCauses s ≠ Flags.none ∧ stuck s = false then exchange (pendingCauses s) s
  else resume s

end Sys2Proof.Machine
end

