-- ==== Sys2Proof/Machine/Step.lean ====
section
/-! DEFINITION. The step, and a state whose next step runs a given instruction. -/

namespace Sys2Proof.Machine

/-- One step of the machine (00 R12). -/
def step (s : State) : Host.Outcome State Fault Refusal := cycle s

/-- `s` with an instruction of the table stored where the next step fetches. It stands for the host's load of a program
and for a deadstart exchange that has been made (70 R551, log 10). -/
def State.withFetchWord (s : State) (nbits w : Nat) : State := 
  { placeTableWord s nbits w with running := true, held := none }

end Sys2Proof.Machine
end

