-- ==== Sys2Proof/Safety.lean ====
section
/-! DEFINITION. The terms the statements use: the invariant of a legal state, what it is to complete an instruction and
leave the rest alone, and what an exchange loads and saves. -/

namespace Sys2Proof.Safety

open Sys2Proof.Machine

/-- A legal state: the invariant that reset meets and every step keeps. -/
structure Legal (s : State) : Prop where
  /-- Memory is in its canonical form. -/
  memory : Memory.wf s.mem
  /-- No byte beyond MEMWORDS is listed (20 R82). -/
  inMemory : ∀ c ∈ s.mem, c.1 < 8 * memWords s.sys
  /-- VL is 1 to 64 (10 R25). -/
  length : 1 ≤ s.vl.toNat ∧ s.vl.toNat ≤ 64
  /-- The cache has at most 128 lines, each address once (20 R96, R99). -/
  cacheSize : s.cache.length ≤ Config.cacheLines
  cacheOrder : s.cache.Pairwise fun x y => x.1 < y.1
  /-- The cache stays empty with CE = 0 (20 R97). -/
  cacheOff : s.ce = false → s.cache = []
  /-- A write in flight is to a word that exists and that the fetch knows to be stored into (20 R82, R108). -/
  queued : ∀ e ∈ s.pending, e.1 < memWords s.sys ∧ e.1 ∈ s.ibufStored
  /-- A program outside monitor mode runs with FLAGS 0 (60 R524). -/
  flagsClear : s.modes.mm = false → s.flags = Flags.none
  /-- No maintenance mode is set (70 R553 P5). -/
  noMaintenance : s.maint = Maintenance.off
  /-- WS is 1 exactly while the CPU holds on a semaphore (40 R199). -/
  waiting : s.ws = s.held.isSome
  /-- The CPU is one of the system (60 R536). -/
  number : s.pn.toNat < ncpu s.sys

/-! ## Completing an instruction -/

/-- P goes on by n parcels, modulo 2^24. -/
def pAfter (s t : State) (n : Nat) : Prop := t.p.toNat = (s.p.toNat + n) % 2 ^ 24

/-- The outcome is a next state in which A register i satisfies q, P has gone on by n, and nothing else has changed. -/
def writesA (out : Result) (s : State) (i : BitVec 3) (n : Nat) (q : AWord → Prop) : Prop :=
  ∃ t, out = .next t ∧ q (reg t.a i) ∧ pAfter s t n ∧ (∀ r, r ≠ i → reg t.a r = reg s.a r) ∧
    t = { s with a := t.a, p := t.p }

/-- The same for S register i. -/
def writesS (out : Result) (s : State) (i : BitVec 3) (n : Nat) (q : Word → Prop) : Prop :=
  ∃ t, out = .next t ∧ q (reg t.s i) ∧ pAfter s t n ∧ (∀ r, r ≠ i → reg t.s r = reg s.s r) ∧
    t = { s with s := t.s, p := t.p }

/-- The outcome is a next state in which each element e of V register i below VL satisfies q e, its other elements and
the other V registers are as before, P has gone on by one parcel, and nothing else has changed. -/
def writesV (out : Result) (s : State) (i : BitVec 3) (q : Nat → Word → Prop) : Prop :=
  ∃ t, out = .next t ∧ (∀ e < 64, e < s.vl.toNat → q e (element t i e)) ∧
    (∀ e < 64, s.vl.toNat ≤ e → element t i e = element s i e) ∧
    (∀ r, r ≠ i → reg t.v r = reg s.v r) ∧ pAfter s t 1 ∧ t = { s with v := t.v, p := t.p }

/-- The outcome is the state u with P gone on by n parcels. -/
def goesOn (out : Result) (u : State) (n : Nat) : Prop :=
  ∃ t, out = .next t ∧ pAfter u t n ∧ t = { u with p := t.p }

/-- The outcome is a next state in which P is the target and nothing else has changed. -/
def jumpsTo (out : Result) (s : State) (target : BitVec 24) : Prop :=
  ∃ t, out = .next t ∧ t.p = target ∧ t = { s with p := t.p }

/-- The outcome is a next state in which channel n is c, P has gone on by one parcel, and nothing else has changed. -/
def writesChannel (out : Result) (s : State) (n : Fin 64) (c : Channel) : Prop :=
  ∃ t, out = .next t ∧ t.chans[n] = c ∧ (∀ m : Fin 64, m ≠ n → t.chans[m] = s.chans[m]) ∧ pAfter s t 1 ∧
    t = { s with chans := t.chans, p := t.p }

/-- The outcome is a next state with one more shared-register write in flight, whose delivery changes only cluster c, as
q says; P has gone on by one parcel and nothing else has changed. -/
def queuesWrite (out : Result) (s : State) (c : Fin Config.maxClusters) (q : Cluster → Cluster → Prop) : Prop :=
  ∃ t w, out = .next t ∧ t.sharedQueue = s.sharedQueue ++ [w] ∧
    q (deliverAll s).clusters[c] (deliverAll t).clusters[c] ∧
    (∀ d : Fin Config.maxClusters, d ≠ c → (deliverAll t).clusters[d] = (deliverAll s).clusters[d]) ∧ pAfter s t 1 ∧
    t = { s with sharedQueue := t.sharedQueue, p := t.p }

/-- The outcome is a next state in which VM satisfies q, P has gone on by one parcel, and nothing else has changed. -/
def writesVm (out : Result) (s : State) (q : Word → Prop) : Prop :=
  ∃ t, out = .next t ∧ q t.vm ∧ pAfter s t 1 ∧ t = { s with vm := t.vm, p := t.p }

/-! ## Encodings, written from 30 R121 to R126 -/

/-- A one-parcel instruction, fields i, j, k. -/
def word1 (gh : BitVec 7) (i j k : BitVec 3) : List Parcel := [gh ++ i ++ j ++ k]
/-- A one-parcel instruction, jk one number. -/
def wordJk (gh : BitVec 7) (i : BitVec 3) (jk : BitVec 6) : List Parcel := [gh ++ i ++ jk]
/-- A two-parcel branch: bit 2 of i is 0. -/
def wordBranch (gh : BitVec 7) (target : BitVec 24) : List Parcel :=
  [gh ++ 0#1 ++ target.extractLsb' 16 8, target.extractLsb' 0 16]
/-- A three-parcel instruction: j and k are 0, and m is the low half of the value. -/
def wordExp (gh : BitVec 7) (i : BitVec 3) (exp : AWord) : List Parcel :=
  [gh ++ i ++ 0#6, exp.extractLsb' 0 16, exp.extractLsb' 16 16]

/-- The parcels are the instruction, whatever follows them (30 R136). -/
def Listed (ps : List Parcel) (i : Instr) : Prop := ∀ rest, decode (ps ++ rest) = .ok i

/-- The parcels stand at P: in the instruction limit, in memory, and not stored into since the last exchange
(20 R88, R108, 30 R136). -/
def parcelsAt (s : State) (ps : List Parcel) : Prop :=
  ∀ n (h : n < ps.length),
    let q := s.p + BitVec.ofNat 24 n
    let a := s.iba.toNat * 1024 + q.toNat / 4
    a < s.ila.toNat * 1024 ∧ a < memWords s.sys ∧ a ∉ s.ibufStored ∧
      ∃ w, readWord s.mem a = some w ∧ w.extractLsb' (48 - 16 * (q.toNat % 4)) 16 = ps[n]

/-- The privileged instructions (30 R135). -/
def isPrivileged : Instr → Bool
  | .ca _ _ | .cl _ _ | .ci _ | .mc _ | .xa _ | .rt _ | .sip _ | .sipi | .cipi | .cln _ | .pci _ | .cci | .eci | .dci
  | .selectPerf _ | .disablePortA | .disablePortB | .disablePortD | .swapCheckBytes | .replaceCheckBits
  | .readPerf _ | .incPerfUpper _ | .clearMaint _ | .incPerfLower _ => true
  | _ => false

/-- A channel of the system: its module is present and it is configured (60 R529). -/
def configured (s : State) (n : Fin 64) : Prop :=
  n.val / 8 < processorModules s.sys.backplane ∧ s.sys.channels.getLsbD n.val = true

/-! ## References -/

/-- The word a scalar read finds: a valid cache line with CE = 1, else memory (20 R100). -/
def scalarValue (s : State) (a : Nat) : Option Word :=
  match (if s.ce then cacheFind s.cache a else none) with
  | some w => some w
  | none => if a < memWords s.sys then wordAt s a else none

/-- Every word of a transfer is in range, exists and holds a value. -/
def readable (s : State) (n : Nat) (at_ : Nat → AWord) : Prop :=
  ∀ e < n, dataInRange s (at_ e) = true ∧ absoluteOf s (at_ e) < memWords s.sys ∧
    (wordAt s (absoluteOf s (at_ e))).isSome = true

/-- Every word of a transfer is in range and exists. -/
def writable (s : State) (n : Nat) (at_ : Nat → AWord) : Prop :=
  ∀ e < n, dataInRange s (at_ e) = true ∧ absoluteOf s (at_ e) < memWords s.sys

/-- What the other agents cannot change between two words of a transfer: every register of the CPU that is not
shared (log 21). While none of them acts, nothing but A, S, B, T, V, P, the place of queued writes and the count of draws
may differ. -/
def sameButShared (s t : State) : Prop :=
  t =
      { s with
        mem := t.mem, pending := t.pending, ibufStored := t.ibufStored, cache := t.cache, sharedQueue := t.sharedQueue
        clusters := t.clusters, rtc := t.rtc, chans := t.chans, peers := t.peers, ipiPending := t.ipiPending
        ivcPending := t.ivcPending, pciRequest := t.pciRequest, inputs := t.inputs, seq := t.seq
        a := t.a, s := t.s, b := t.b, t := t.t, v := t.v, p := t.p } ∧
    (s.inputs = [] →
      t =
        { s with
          mem := t.mem, pending := t.pending, seq := t.seq, a := t.a, s := t.s, b := t.b, t := t.t, v := t.v
          p := t.p })

/-- What a scalar reference to the word at a, of value v, leaves in the cache: nothing with CE = 0; with CE = 1 the line
of a holds v, or it was absent and no line changed; and no other line is touched (20 R97, R100). -/
def cachesScalar (s t : State) (a : Nat) (v : Word) : Prop :=
  (s.ce = false → t.cache = s.cache) ∧
    (s.ce = true → cacheFind t.cache a = some v ∨ (cacheFind s.cache a = none ∧ t.cache = s.cache)) ∧
    ∀ x, x ≠ a → cacheFind t.cache x = cacheFind s.cache x

/-- The outcome of a scalar load of w from the word at a: register and P written by `write`, every byte as this CPU finds
it as before, and nothing else changed but the line of a. -/
def loads (out : Result) (s : State) (a : Nat) (w : Word) (write : State → State) : Prop :=
  ∃ t, out = .next t ∧ (∀ b, byteAt t b = byteAt s b) ∧ cachesScalar s t a w ∧
    t = { write s with p := s.p + 3, mem := t.mem, pending := t.pending, cache := t.cache }

/-- The words known to be stored into since the last exchange become those of s and the new ones (20 R108). -/
def marks (s t : State) (new : Nat → Prop) : Prop := ∀ a, a ∈ t.ibufStored ↔ a ∈ s.ibufStored ∨ new a

/-- The outcome of a scalar store of v to the word at a: every byte of every other word as before, the word known to be
stored into, and nothing else changed but the line of a. -/
def stores (out : Result) (s : State) (a : Nat) (v : Word) : Prop :=
  ∃ t, out = .next t ∧ wordAt t a = some v ∧ (∀ b, b / 8 ≠ a → byteAt t b = byteAt s b) ∧ cachesScalar s t a v ∧
    marks s t (· = a) ∧
    t = { s with p := s.p + 3, pending := t.pending, ibufStored := t.ibufStored, cache := t.cache }

/-- After a store of n words: each word holds the value of the last element stored to it, every byte of every other
word is as before, and the words are known to be stored into. -/
def stored (s t : State) (n : Nat) (at_ : Nat → AWord) (value : Nat → Word) : Prop :=
  (∀ e < n, (∀ f < n, e < f → absoluteOf s (at_ f) ≠ absoluteOf s (at_ e)) →
      wordAt t (absoluteOf s (at_ e)) = some (value e)) ∧
    (∀ b, (∀ e < n, b / 8 ≠ absoluteOf s (at_ e)) → byteAt t b = byteAt s b) ∧
    marks s t fun a => ∃ e < n, a = absoluteOf s (at_ e)

/-! ## Transfers whose first failing reference ends them (42 R263, 47 R478, 60 R514, D55) -/

/-- The outcome is an exchange with ORE, and the requests pending, from the state u. -/
def takesOre (out : Result) (u : State) : Prop := out = exchange (causeOre.union (pendingCauses u)) u

/-- A load of n words abandoned: ORE is taken from a state in which P is after the instruction and each register r of the
destination `bank` holds its old value or, with the other agents at rest, the word of its own element e in range, where
`into r e`; `rest` says which registers are as before, and every byte is. -/
def abandonsLoad {α : Type} (out : Result) (s : State) (n : Nat) (at_ : Nat → AWord) (into : BitVec 6 → Nat → Prop)
    (bank : State → BitVec 6 → α) (value : Word → α) (rest : State → Prop) : Prop :=
  ∃ u, takesOre out u ∧ sameButShared s u ∧ rest u ∧ pAfter s u 1 ∧
    (∀ r, bank u r = bank s r ∨ ∃ e < n, into r e ∧ dataInRange s (at_ e) = true) ∧
    (s.inputs = [] → (∀ b, byteAt u b = byteAt s b) ∧
      ∀ r, bank u r = bank s r ∨ ∃ e < n, into r e ∧ dataInRange s (at_ e) = true ∧
        ∃ w, wordAt s (absoluteOf s (at_ e)) = some w ∧ bank u r = value w)

/-- A store of n words abandoned: ORE is taken from a state in which P is after the instruction and each word a is as
before, or in range and holds the value of the last element stored to it, known to be stored into and with its cache line
as `line` says; nothing else has changed. -/
def abandonsStore (out : Result) (s : State) (n : Nat) (at_ : Nat → AWord) (value : Nat → Word)
    (line : Option Word → Option Word) : Prop :=
  ∃ u, takesOre out u ∧ pAfter s u 1 ∧
    (∀ a, ((∀ b, b / 8 = a → byteAt u b = byteAt s b) ∧ cacheFind u.cache a = cacheFind s.cache a ∧
          (a ∈ u.ibufStored ↔ a ∈ s.ibufStored)) ∨
        ∃ e < n, dataInRange s (at_ e) = true ∧ absoluteOf s (at_ e) = a ∧
          (∀ f < n, e < f → absoluteOf s (at_ f) ≠ a) ∧ wordAt u a = some (value e) ∧ a ∈ u.ibufStored ∧
          cacheFind u.cache a = line (cacheFind s.cache a)) ∧
    u = { s with pending := u.pending, ibufStored := u.ibufStored, cache := u.cache, p := u.p, seq := u.seq }

/-- The first reference of a load that fails decides: a range error is refused with IOR = 0 and abandons the load with
IOR = 1, a word beyond memory faults, and so, with the other agents at rest, does a word without a value. -/
def loadEnds (out : Result) (s : State) (n : Nat) (at_ : Nat → AWord) (abandoned : Prop) : Prop :=
  ∀ e < n, readable s e at_ →
    (dataInRange s (at_ e) = false → (s.modes.ior = false → out = .refused .operandRange) ∧
      (s.modes.ior = true → abandoned)) ∧
    (dataInRange s (at_ e) = true → memWords s.sys ≤ absoluteOf s (at_ e) → out = .fault .memoryAbsent) ∧
    (dataInRange s (at_ e) = true → absoluteOf s (at_ e) < memWords s.sys → s.inputs = [] →
      wordAt s (absoluteOf s (at_ e)) = none → out = .fault .memoryNoValue)

/-- The first reference of a store that fails decides: a range error is refused with IOR = 0 and abandons the store with
IOR = 1, and a word beyond memory faults. -/
def storeEnds (out : Result) (s : State) (n : Nat) (at_ : Nat → AWord) (abandoned : Prop) : Prop :=
  ∀ e < n, writable s e at_ →
    (dataInRange s (at_ e) = false → (s.modes.ior = false → out = .refused .operandRange) ∧
      (s.modes.ior = true → abandoned)) ∧
    (dataInRange s (at_ e) = true → memWords s.sys ≤ absoluteOf s (at_ e) → out = .fault .memoryAbsent)

/-! ## Exchanges -/

/-- The sixteen words of the package at XA, once this CPU's writes are performed (60 R503, R505). -/
def packageAt (s : State) (ws : List Word) : Prop := readWords (performAll s).mem (s.xa.toNat * 16) 16 = some ws

/-- A package that may run: VL 1 to 64, and MM = 1 or FLAGS 0 (60 R505, R524). -/
def runnable (ws : List Word) : Prop :=
  (1 ≤ ((ws.getD 5 0).extractLsb' 41 7).toNat ∧ ((ws.getD 5 0).extractLsb' 41 7).toNat ≤ 64) ∧
    (modeAt ((ws.getD 6 0).extractLsb' 32 12) 0 = true ∨ (ws.getD 6 0).extractLsb' 44 11 = 0)

/-- The registers of t are those of the package (60 R504, R505 step 5). -/
def loadedFrom (t : State) (ws : List Word) : Prop :=
  (∀ n : BitVec 3, reg t.a n = (ws.getD n.toNat 0).extractLsb' 0 32) ∧
    (∀ n : BitVec 3, reg t.s n = ws.getD (n.toNat + 8) 0) ∧
    t.p = (ws.getD 0 0).extractLsb' 32 24 ∧ t.iba = (ws.getD 1 0).extractLsb' 34 22 ∧
    t.ila = (ws.getD 2 0).extractLsb' 34 22 ∧ t.dba = (ws.getD 3 0).extractLsb' 34 22 ∧
    t.dla = (ws.getD 4 0).extractLsb' 34 22 ∧ t.xa = (ws.getD 5 0).extractLsb' 48 10 ∧
    t.vl = (ws.getD 5 0).extractLsb' 41 7 ∧ t.cln = (ws.getD 5 0).extractLsb' 32 6 ∧
    packFlags t.flags = (ws.getD 6 0).extractLsb' 44 11 ∧ packModes t.modes = (ws.getD 6 0).extractLsb' 32 12 ∧
    t.ce = (ws.getD 7 0).getLsbD 32

/-- The words hold the registers of s, with the flags f set (60 R504). -/
def savedFrom (s : State) (f : Flags) (ws : List Word) : Prop :=
  ws.length = 16 ∧
    (∀ n : BitVec 3, (ws.getD n.toNat 0).extractLsb' 0 32 = reg s.a n) ∧
    (∀ n : BitVec 3, ws.getD (n.toNat + 8) 0 = reg s.s n) ∧
    (ws.getD 0 0).extractLsb' 56 5 = s.pn ∧ (ws.getD 0 0).extractLsb' 32 24 = s.p ∧
    (ws.getD 1 0).extractLsb' 34 22 = s.iba ∧ (ws.getD 2 0).extractLsb' 34 22 = s.ila ∧
    (ws.getD 3 0).extractLsb' 34 22 = s.dba ∧ (ws.getD 4 0).extractLsb' 34 22 = s.dla ∧
    (ws.getD 5 0).extractLsb' 48 10 = s.xa ∧ (ws.getD 5 0).extractLsb' 41 7 = s.vl ∧
    (ws.getD 5 0).extractLsb' 32 6 = s.cln ∧ (ws.getD 6 0).getLsbD 62 = s.ws ∧
    (ws.getD 6 0).extractLsb' 44 11 = packFlags f ∧ (ws.getD 6 0).extractLsb' 32 12 = packModes s.modes ∧
    (ws.getD 7 0).getLsbD 32 = s.ce

/-- What an exchange neither saves nor changes (60 R504, 10 R22 to R26), and what it clears (60 R505 step 6). -/
def leftByExchange (s t : State) : Prop :=
  t.b = s.b ∧ t.t = s.t ∧ t.v = s.v ∧ t.vm = s.vm ∧ t.pn = s.pn ∧ t.ii = s.ii ∧ t.pciEnable = s.pciEnable ∧
    t.pciRequest = s.pciRequest ∧ t.ipiPending = s.ipiPending ∧ t.perf = s.perf ∧ t.maint = s.maint ∧
    t.sharedQueue = s.sharedQueue ∧ t.clusters = s.clusters ∧ t.rtc = s.rtc ∧ t.chans = s.chans ∧
    t.peers = s.peers ∧ t.running = s.running ∧ t.inputs = s.inputs ∧
    t.ws = false ∧ t.held = none ∧ t.sys = s.sys ∧ t.cache = [] ∧ t.ivcPending.getLsbD s.pn.toNat = false ∧
    (∀ n, n ≠ s.pn.toNat → t.ivcPending.getLsbD n = s.ivcPending.getLsbD n) ∧ t.ibufStored = [] ∧ t.pending = []

/-- The outcome is a completed exchange: from the state s it saved s with the flags f over the package ws it loaded, and
changed nothing else (60 R505). -/
def exchanges (out : Result) (s : State) (f : Flags) (ws : List Word) : Prop :=
  ∃ t saved, out = .next t ∧ loadedFrom t ws ∧ readWords t.mem (s.xa.toNat * 16) 16 = some saved ∧
    savedFrom s f saved ∧ leftByExchange s t ∧
    ∀ b, b / 8 < s.xa.toNat * 16 ∨ s.xa.toNat * 16 + 16 ≤ b / 8 → byteAt t b = byteAt s b

/-- A state that an instruction of s left by an exchange for a cause of its own, with the requests pending at most added:
from a state whose XA, MODES, FLAGS, bases and limits, CLN, CE and PN are those of s (60 R505, R512). -/
def leftByOwnExchange (s t : State) : Prop :=
  ∃ cause u, cause ∈ [causeDl, causeFpe, causeOre, causeEex, causeNex] ∧
    exchange (cause.union (pendingCauses u)) u = .next t ∧
    u.xa = s.xa ∧ u.modes = s.modes ∧ u.flags = s.flags ∧ u.iba = s.iba ∧ u.ila = s.ila ∧ u.dba = s.dba ∧
    u.dla = s.dla ∧ u.cln = s.cln ∧ u.ce = s.ce ∧ u.pn = s.pn

end Sys2Proof.Safety
end

