-- ==== Sys2Proof/Certificates/Slice0/Obligations.lean ====
section
/-! DEFINITION. The statements for the provers, one `def Obligations.<Name> : Prop` each; OBLIGATIONS.json lists them. -/

section

open Sys2Proof Sys2Proof.Machine Sys2Proof.Safety

/-! ## The machine as a whole -/

/-- Reset meets the invariant. VL 1 at reset is the model's choice (log 9); no maintenance mode is premise P5 of 70
R553 (log 37). -/
def Obligations.ResetMeetsInvariant : Prop := Legal State.reset

/-- Every step keeps the invariant. FLAGS 0 outside monitor mode is the spec's decision D59; no maintenance mode is
premise P5 of 70 R553 (log 37). -/
def Obligations.StepKeepsInvariant : Prop := ∀ s t, Legal s → step s = .next t → Legal t

/-- What 10 R59 and 70 R552, R553 give for reset: WS 0, cache and buffers and queues empty, no request pending, no
maintenance mode. The requests and modes are the launch premises of 70 R553, taken as reset values (logs 37, 40). -/
def Obligations.ResetState : Prop :=
  let s := State.reset
  s.ws = false ∧ s.held = none ∧ s.cache = [] ∧ s.ibufStored = [] ∧ s.pending = [] ∧ s.sharedQueue = [] ∧ s.pciEnable = false ∧
    s.pciRequest = false ∧ s.ipiPending = 0 ∧ s.maint = Maintenance.off ∧
    ∀ n : Fin 64, s.chans[n].int = false ∧ s.chans[n].err = false ∧ s.chans[n].active = false

/-- The first step of a CPU is an exchange sequence from the package at BOOT_XA, here 0, which loads the package and
leaves B, T, V, VM and every byte outside the package (70 R551, R552). BOOT_XA = 0 is the model's choice (log 10). -/
def Obligations.DeadstartLoadsPackage : Prop :=
  ∀ s0 ws, (environment s0).running = false → readWords (performAll (environment s0)).mem 0 16 = some ws →
    runnable ws →
    ∃ t, step s0 = .next t ∧ loadedFrom t ws ∧ t.running = true ∧ t.ws = false ∧ t.held = none ∧ t.cache = [] ∧
      t.ibufStored = [] ∧ t.pending = [] ∧ t.b = s0.b ∧ t.t = s0.t ∧ t.v = s0.v ∧ t.vm = s0.vm ∧
      ∀ b, 16 ≤ b / 8 → byteAt t b = byteAt (environment s0) b

/-- Decoding what the encoder writes gives the instruction back, whatever follows; a second spelling gives the
instruction it spells. The places of the fields and the order of the parcels are the spec's decisions (logs 2, 3). -/
def Obligations.EncodeThenDecode : Prop :=
  ∀ (i : Instr) (rest : List Parcel), i.wellFormed = true → decode (encode i ++ rest) = .ok i.primary

/-- What the decoder answers is well formed, is no second spelling, and encodes to the parcels it was read from: each
listed word has one meaning and every other word is refused (30 R129, R131). The places of the fields and the order of
the parcels are the spec's decisions (logs 2, 3). -/
def Obligations.DecodeThenEncode : Prop :=
  ∀ (ps : List Parcel) (i : Instr), decode ps = .ok i →
    encode i = ps.take i.parcels ∧ i.wellFormed = true ∧ i.isSpelling = false

/-- Words written out from the spec's examples decode to their instructions. The order of the parcels m and n is the
model's choice (log 3). -/
def Obligations.WrittenWordsDecode : Prop :=
  decodeTableWord 16 0x0000 = some .err ∧ decodeTableWord 16 0x0213 = some (.ca 2 3) ∧
    decodeTableWord 16 0x0200 = some .pass ∧ decodeTableWord 16 0x0785 = some (.smClear 5) ∧
    decodeTableWord 32 0x23450C01 = some (.jump 0x012345) ∧
    decodeTableWord 48 0x123456782040 = some (.aExp 1 0x12345678) ∧
    decodeTableWord 16 0x3053 = some (.aAdd 1 2 3) ∧ decodeTableWord 16 0x4853 = some (.sAnd 1 2 3) ∧
    decodeTableWord 16 0x5674 = some (.s0ShiftRight 1 52) ∧ decodeTableWord 16 0x7C53 = some (.sFromV 1 2 3) ∧
    decodeTableWord 48 0x000000048440 = some (.loadA 2 1 4) ∧ decodeTableWord 16 0xD453 = some (.vDoubleLeft 1 2 3) ∧
    decodeTableWord 16 0xFA54 = some (.vmZeroIdx 1 2) ∧ decodeTableWord 16 0xFE53 = some (.vScatter 2 3) ∧
    decodeTableWord 16 0x3641 = none ∧ decodeTableWord 16 0x0725 = none

/-- When the CPU runs, does not hold and has no request pending, the step is the other agents' actions and then the
instruction the parcels at P decode to; a first parcel that is no row is refused whatever follows it (30 R129, R136). A
CPU that holds runs its test and set again, and with a deadlock even if a request is pending (40 R199, 60 R512). The place
of a parcel in its word and the shift of IBA are the model's choices (logs 2, 4), and so are when a row is looked up
(log 53) and that a hold fetches nothing (log 49). -/
def Obligations.StepRunsDecoded : Prop :=
  ∀ s0 : State,
    let s := environment s0
    s.running = true →
      (s.held = none → pendingCauses s = Flags.none →
        (∀ (p : Parcel) (ps : List Parcel) (i : Instr), ps.length + 1 = parcelCount p → parcelsAt s (p :: ps) →
            decode (p :: ps) = .ok i → step s0 = exec i s) ∧
          ∀ (p : Parcel) (why : Reject), parcelsAt s [p] → unlistedFirst p = some why →
            (∀ (ps : List Parcel) (i : Instr), decode (p :: ps) ≠ .ok i) ∧ step s0 = .refused (.unlisted why)) ∧
        ∀ n : Fin 32, s.held = some n → pendingCauses s = Flags.none ∨ stuck s = true →
          step s0 = exec (.smTestSet (BitVec.ofNat 6 n.val)) s

/-- A second spelling has the parcels and the meaning of the instruction it spells (30 R134). -/
def Obligations.SpellingsMeanTheirInstruction : Prop :=
  (∀ i : Instr, encode i = encode i.primary) ∧ (∀ (i : Instr) (s : State), exec i s = exec i.primary s) ∧
    ∀ i : Instr, i.primary.isSpelling = false ∧ (i.isSpelling = false → i.primary = i)

/-- A field of 0 reads a constant through h, j or k, and any other field its register (00 R9, R10). A data address is
DBA * 2^10 + l, in range when it has 32 bits and is below DLA * 2^10 (20 R87; the shift is the model's choice, log 4). -/
def Obligations.OperandsAndAddresses : Prop :=
  ∀ (s : State) (n : BitVec 3) (l : AWord),
    (readAh s 0 = 0 ∧ readAj s 0 = 0 ∧ readAk s 0 = 1 ∧ readSj s 0 = 0 ∧ (readSk s 0).toNat = 2 ^ 63) ∧
      (n ≠ 0 → readAh s n = reg s.a n ∧ readAj s n = reg s.a n ∧ readAk s n = reg s.a n ∧ readSj s n = reg s.s n ∧
        readSk s n = reg s.s n) ∧
      absoluteOf s l = s.dba.toNat * 2 ^ 10 + l.toNat ∧
      (dataInRange s l = true ↔
        s.dba.toNat * 2 ^ 10 + l.toNat < 2 ^ 32 ∧ s.dba.toNat * 2 ^ 10 + l.toNat < s.dla.toNat * 2 ^ 10)

/-! ## The exchange (spec/60_exceptions.md) -/

/-- A saved package, loaded again, gives back every register of the package, with the causes added to FLAGS (60 R504).
The places of the bits in FLAGS and MODES are free (log 16); that causes are added is the spec's decision D59. -/
def Obligations.PackageRestores : Prop :=
  ∀ (s u : State) (causes : Flags),
    let r := unpackPackage (packPackage s causes) u
    r.a = s.a ∧ r.s = s.s ∧ r.p = s.p ∧ r.iba = s.iba ∧ r.ila = s.ila ∧ r.dba = s.dba ∧ r.dla = s.dla ∧ r.xa = s.xa ∧
      r.vl = s.vl ∧ r.cln = s.cln ∧ r.flags = s.flags.union causes ∧ r.modes = s.modes ∧ r.ce = s.ce

/-- The exchange sequence completes on a package that may run: the running program and the package at XA change places
(60 R503, R504, R505). The place XA * 16 and the swap are the spec's decision D15; the places of the bits in FLAGS and
MODES are free (log 16). -/
def Obligations.ExchangeSwaps : Prop :=
  ∀ (s : State) (ws : List Word) (f : Flags), packageAt s ws → runnable ws →
    exchanges (exchange f s) s (s.flags.union f) ws

/-- A package that may not run is refused by name (60 R505 step 5, R524). These are the spec's decisions D43 and D59
(log 32). -/
def Obligations.ExchangeRefusesBadPackage : Prop :=
  ∀ (s : State) (ws : List Word) (f : Flags), packageAt s ws →
    let vl := ((ws.getD 5 0).extractLsb' 41 7).toNat
    (vl = 0 ∨ 64 < vl → exchange f s = .refused .vlOutOfRange) ∧
      (1 ≤ vl ∧ vl ≤ 64 → ¬runnable ws → exchange f s = .refused .flagsPending)

/-- ERR and EX exchange in either mode, with EEX or NEX and the address after the instruction saved (40 R161, R202).
That they exchange in either mode is the spec's decision D34 (log 29, PRESUMED), the saved P its decision D28 (log
30). -/
def Obligations.ExitsExchange : Prop :=
  Listed (word1 0o000 0 0 0) .err ∧ Listed (word1 0o004 0 0 0) .ex ∧
    ∀ (s : State) (ws : List Word), packageAt s ws → runnable ws →
      let u := { s with p := s.p + 1 }
      exchanges (exec .err s) u (s.flags.union (causeEex.union (pendingCauses s))) ws ∧
        exchanges (exec .ex s) u (s.flags.union (causeNex.union (pendingCauses s))) ws

/-- With MM = 0 a pending interprocessor or clock request is taken between instructions by one exchange that saves P
and the flags of both, and adds no other flag but perhaps IOI, also while the CPU holds on a semaphore that is no
deadlock (60 R509, R512, R515, R526). What is saved as P and the taking of all causes at once are the spec's decisions
D28 and D58 (log 30). -/
def Obligations.InterruptsAreTaken : Prop :=
  ∀ (s0 : State) (ws : List Word),
    let s := environment s0
    let icp := s.ipiPending.getLsbD s.pn.toNat
    let pci := s.pciEnable && s.pciRequest
    s.running = true → s.modes.mm = false → stuck s = false → packageAt s ws → runnable ws →
      (icp || pci) = true →
      ∃ f, exchanges (step s0) s f ws ∧ f.icp = (s.flags.icp || icp) ∧ f.pci = (s.flags.pci || pci) ∧
        f.eex = s.flags.eex ∧ f.nex = s.flags.nex ∧ f.dl = s.flags.dl ∧ f.fpe = s.flags.fpe ∧ f.ore = s.flags.ore ∧
        f.pre = s.flags.pre ∧ f.me = s.flags.me ∧ f.mcu = s.flags.mcu

/-- What the model chooses of the requests: with MM = 1 none is taken and the CPU goes on (log 29); with MM = 0 an I/O
interrupt goes to the only CPU with SEI, and not to a CPU without it when another has it (60 R521, log 28). -/
def Obligations.RequestChoices : Prop :=
  ∀ s0 : State,
    let s := environment s0
    let other (n : Fin 32) : Prop := n.val ≠ s.pn.toNat ∧ n.val < ncpu s.sys
    s.running = true →
      (s.modes.mm = true → pendingCauses s = Flags.none ∧ step s0 = resume s) ∧
        ((∃ n : Fin 64, configured s n ∧ s.chans[n].int = true) → s.modes.mm = false →
          (∀ ws, stuck s = false → packageAt s ws → runnable ws → s.modes.sei = true →
              (∀ n, other n → s.peers[n].sei = false) →
                ∃ f, exchanges (step s0) s f ws ∧ f.ioi = true) ∧
            (s.modes.sei = false → (∃ n, other n ∧ s.peers[n].sei = true) → (pendingCauses s).ioi = false))

/-- A fetch of the first parcel of an instruction, or of a later one, at or beyond the instruction limit exchanges
with PRE and saves the P of the instruction (20 R88, 60 R516). The cause PRE is the spec's own inference; for a later
parcel it is log 43. The shift of the base is the model's choice (log 4), the saved P the spec's decision D28 (log
30). That it is taken in either mode is the spec's decision D34 (log 29). -/
def Obligations.ProgramRangeExchanges : Prop :=
  ∀ (s0 : State) (ws : List Word),
    let s := environment s0
    let beyond (q : BitVec 24) : Prop := s.ila.toNat * 2 ^ 10 ≤ s.iba.toNat * 2 ^ 10 + q.toNat / 4
    s.running = true → s.held = none → pendingCauses s = Flags.none → packageAt s ws → runnable ws →
      (beyond s.p → exchanges (step s0) s (s.flags.union causePre) ws) ∧
        ∀ (p : Parcel) (ps : List Parcel), unlistedFirst p = none → parcelsAt s (p :: ps) →
          ps.length + 1 < parcelCount p → beyond (s.p + BitVec.ofNat 24 (ps.length + 1)) →
            exchanges (step s0) s (s.flags.union causePre) ws

/-! ## Modes and privilege -/

/-- A privileged instruction outside monitor mode only advances P. It is the model's choice among the two of
60 R534 (log 11). -/
def Obligations.PrivilegedInUserModeIsNop : Prop :=
  ∀ (i : Instr) (s : State), isPrivileged i = true → s.modes.mm = false → goesOn (exec i s) s 1

/-- MM, SEI and the unnamed modes, the bases and limits, FLAGS and CE change only by an exchange for a cause of the
instruction's own (60 R533, R535), and PN and the system's parameters never. -/
def Obligations.OnlyExchangesChangeControl : Prop :=
  ∀ (i : Instr) (s t : State), exec i s = .next t →
    t.pn = s.pn ∧ t.sys = s.sys ∧
      ((t.modes.mm = s.modes.mm ∧ t.modes.sei = s.modes.sei ∧ t.modes.rest = s.modes.rest ∧ t.iba = s.iba ∧
          t.ila = s.ila ∧ t.dba = s.dba ∧ t.dla = s.dla ∧ t.flags = s.flags ∧ t.ce = s.ce) ∨
        leftByOwnExchange s t)

/-- Outside monitor mode no instruction changes II, the clock enable, the performance monitor or the maintenance modes, nor,
while the other agents do nothing, the RTC, a channel, a clock request or an interrupt request; and none changes XA or CLN
but by an exchange for a cause of its own (30 R135, 60 R504, R533). What a privileged instruction does there is the
model's choice (log 11). -/
def Obligations.UserModeKeepsSystemState : Prop :=
  ∀ (i : Instr) (s t : State), s.modes.mm = false → exec i s = .next t →
    t.ii = s.ii ∧ t.pciEnable = s.pciEnable ∧ t.perf = s.perf ∧ t.maint = s.maint ∧
      (s.inputs = [] → t.rtc = s.rtc ∧ t.chans = s.chans ∧ t.pciRequest = s.pciRequest ∧
        t.ipiPending = s.ipiPending) ∧
      ((t.xa = s.xa ∧ t.cln = s.cln) ∨ leftByOwnExchange s t)

/-! ## Operation codes 000 to 004 (spec/40_control_monitor.md) -/

/-- The channel commands in monitor mode, on a configured channel (40 R162, R164 to R166); another number is refused
by name (40 R160). The refusal and what CA and CL hold are the spec's decisions D42 and D36 (logs 1, 33). -/
def Obligations.ChannelCommands : Prop :=
  ∀ (j k : BitVec 3) (s : State), s.modes.mm = true →
    (∀ n : Fin 64, configured s n → (readAj s j).toNat = n.val + 0o20 →
      writesChannel (exec (.ca j k) s) s n { s.chans[n] with ca := readAk s k, active := true } ∧
        writesChannel (exec (.cl j k) s) s n { s.chans[n] with cl := readAk s k } ∧
        (∃ mc, (n.val % 2 = 1 → mc = false) ∧ (n.val % 2 = 0 → mc = s.chans[n].masterClear) ∧
          writesChannel (exec (.ci j) s) s n { s.chans[n] with int := false, err := false, masterClear := mc }) ∧
        ∃ mc rh, (n.val % 2 = 1 → mc = true ∧ rh = s.chans[n].readyHeld) ∧
          (n.val % 2 = 0 → mc = s.chans[n].masterClear ∧ rh = false) ∧
          writesChannel (exec (.mc j) s) s n
            { s.chans[n] with int := false, err := false, masterClear := mc, readyHeld := rh }) ∧
      ((∀ n : Fin 64, configured s n → (readAj s j).toNat ≠ n.val + 0o20) →
        exec (.ca j k) s = .refused .noSuchChannel ∧ exec (.cl j k) s = .refused .noSuchChannel ∧
          exec (.ci j) s = .refused .noSuchChannel ∧ exec (.mc j) s = .refused .noSuchChannel)

/-- The monitor's transfers to XA, RTC, CLN and II and to the programmable clock's request and enable (40 R167, R168,
R171 to R175); bits 13:4 for XA are the model's choice (log 19). Clearing and enabling the clock request follow D30
(log 40). -/
def Obligations.MonitorTransfers : Prop :=
  ∀ (j : BitVec 3) (s : State), s.modes.mm = true →
    goesOn (exec (.xa j) s) { s with xa := BitVec.ofNat 10 ((readAj s j).toNat / 16) } 1 ∧
      goesOn (exec (.rt j) s) { s with rtc := readSj s j } 1 ∧
      goesOn (exec (.cln j) s) { s with cln := BitVec.ofNat 6 (readAj s j).toNat } 1 ∧
      goesOn (exec (.pci j) s) { s with ii := readSj s j } 1 ∧
      goesOn (exec .cci s) { s with pciRequest := false } 1 ∧
      goesOn (exec .eci s) { s with pciEnable := true } 1 ∧
      goesOn (exec .dci s) { s with pciEnable := false } 1

/-- SIP and SIPI set the request of the CPU named, CIPI clears this CPU's own, and IVC sets a cache-invalidate
request; no other bit changes, and a number that is no CPU of the system is refused by name (40 R169, R170, R189).
That CIPI clears the issuing CPU's request is the spec's decision D34; that IVC only sets a request is log 35. NCPU is
a parameter of the system, at reset 32 by the model's choice (log 1). -/
def Obligations.RequestsBetweenCpus : Prop :=
  ∀ (j : BitVec 3) (s : State),
    let n := (readAj s j).toNat
    let ipi (out : Result) (m : Nat) (v : Bool) : Prop := ∃ t, out = .next t ∧ pAfter s t 1 ∧
      t = { s with ipiPending := t.ipiPending, p := t.p } ∧
      ∀ b < 32, t.ipiPending.getLsbD b = if b = m then v else s.ipiPending.getLsbD b
    (s.modes.mm = true →
        (n < ncpu s.sys → ipi (exec (.sip j) s) n true) ∧ (ncpu s.sys ≤ n → exec (.sip j) s = .refused .noSuchCpu) ∧
          ipi (exec .sipi s) 0 true ∧ ipi (exec .cipi s) s.pn.toNat false) ∧
      (n < ncpu s.sys → ∃ t, exec (.ivc j) s = .next t ∧ pAfter s t 1 ∧
        t = { s with ivcPending := t.ivcPending, p := t.p } ∧
        ∀ b < 32, t.ivcPending.getLsbD b = (decide (b = n) || s.ivcPending.getLsbD b)) ∧
      (ncpu s.sys ≤ n → exec (.ivc j) s = .refused .noSuchCpu)

/-- The performance-monitor instructions in monitor mode change the opaque monitor only, but for the value read into
Si, which is free; 073i31 finds no maintenance mode to clear (40 R182, 44 R357 to R360). The opaque monitor is the
spec's decision D17 (log 36). -/
def Obligations.PerformanceMonitor : Prop :=
  ∀ (i j : BitVec 3) (s : State), s.modes.mm = true →
    let moves (out : Result) : Prop := ∃ t, out = .next t ∧ pAfter s t 1 ∧ t = { s with perf := t.perf, p := t.p }
    moves (exec (.selectPerf j) s) ∧ moves (exec (.incPerfUpper i) s) ∧ moves (exec (.incPerfLower i) s) ∧
      (∃ t, exec (.readPerf i) s = .next t ∧ pAfter s t 1 ∧ (∀ r, r ≠ i → reg t.s r = reg s.s r) ∧
        t = { s with s := t.s, perf := t.perf, p := t.p, seq := t.seq }) ∧
      (s.maint = Maintenance.off → goesOn (exec (.clearMaint i) s) s 1)

/-- The five instructions that set a maintenance mode stop by name in monitor mode (40 R183 to R187). It is the spec's
decision D17 (log 37). -/
def Obligations.MaintenanceModesStop : Prop :=
  ∀ s : State, s.modes.mm = true →
    exec .disablePortA s = .refused .maintenanceMode ∧ exec .disablePortB s = .refused .maintenanceMode ∧
      exec .disablePortD s = .refused .maintenanceMode ∧ exec .swapCheckBytes s = .refused .maintenanceMode ∧
      exec .replaceCheckBits s = .refused .maintenanceMode

/-- The mode instructions set or clear one bit of MODES (40 R191 to R196). -/
def Obligations.ModeInstructions : Prop :=
  (Listed (word1 0o002 1 0 0) .efi ∧ Listed (word1 0o002 2 0 0) .dfi ∧ Listed (word1 0o002 3 0 0) .eri ∧
      Listed (word1 0o002 4 0 0) .dri ∧ Listed (word1 0o002 5 0 0) .dbm ∧ Listed (word1 0o002 6 0 0) .ebm) ∧
    ∀ s : State,
      goesOn (exec .efi s) { s with modes := { s.modes with ifp := true } } 1 ∧
        goesOn (exec .dfi s) { s with modes := { s.modes with ifp := false } } 1 ∧
        goesOn (exec .eri s) { s with modes := { s.modes with ior := true } } 1 ∧
        goesOn (exec .dri s) { s with modes := { s.modes with ior := false } } 1 ∧
        goesOn (exec .dbm s) { s with modes := { s.modes with bdm := false } } 1 ∧
        goesOn (exec .ebm s) { s with modes := { s.modes with bdm := true } } 1

/-- VL becomes (Ak) modulo 64 with 0 standing for 64, and VM becomes (Sj) (40 R190, R198); how VL is formed is the
model's choice (log 20). -/
def Obligations.VectorLengthAndMask : Prop :=
  ∀ (j k : BitVec 3) (s : State),
    (∃ t, exec (.setVl k) s = .next t ∧ pAfter s t 1 ∧ t = { s with vl := t.vl, p := t.p } ∧
        t.vl.toNat = if (readAk s k).toNat % 64 = 0 then 64 else (readAk s k).toNat % 64) ∧
      goesOn (exec .setVlOne s) { s with vl := 1 } 1 ∧ writesVm (exec (.setVm j) s) s (· = readSj s j) ∧
      writesVm (exec .clearVm s) s (· = 0)

/-- PASS only advances P (40 R163). -/
def Obligations.PassDoesNothing : Prop :=
  Listed (word1 0o001 0 0 0) .pass ∧ ∀ s : State, goesOn (exec .pass s) s 1

/-- After CMR no write of this CPU is in flight, memory holds every byte as this CPU found it before, and nothing else
has changed (20 R104, 40 R197). -/
def Obligations.CompleteMemoryReferences : Prop :=
  Listed (word1 0o002 7 0 0) .cmr ∧
    ∀ s : State, ∃ t, exec .cmr s = .next t ∧ t.pending = [] ∧ (∀ b, readByte t.mem b = byteAt s b) ∧
      (∀ b, byteAt t b = byteAt s b) ∧ pAfter s t 1 ∧ t = { s with mem := t.mem, pending := t.pending, p := t.p }

/-- Test and set on a clear semaphore sets it and goes on; on a set one it holds with WS = 1 and P where it was, or
exchanges with DL and that P when every CPU of the cluster waits (40 R199, 60 R517). The deadlock condition is the
model's choice (log 27). That DL is taken in either mode is the spec's decision D34 (log 29). That a hold is a next
state is log 49. -/
def Obligations.TestAndSet : Prop :=
  ∀ (jk : BitVec 6) (n : Fin 32) (c : Fin Config.maxClusters) (s : State), jk.toNat = n.val →
    s.cln.toNat = c.val + 1 → c.val < nclusters s.sys →
    let u := deliverAll s
    let waits (m : Fin 32) : Prop :=
      m.val = s.pn.toNat ∨ ncpu s.sys ≤ m.val ∨ s.peers[m].cln ≠ s.cln ∨ s.peers[m].ws = true
    let waiting := { u with ws := true, held := some n }
    (u.clusters[c].sm.getLsbD n.val = false →
        ∃ t, exec (.smTestSet jk) s = .next t ∧
          (∀ m < 32, t.clusters[c].sm.getLsbD m = (decide (m = n.val) || u.clusters[c].sm.getLsbD m)) ∧
          t.clusters[c].sb = u.clusters[c].sb ∧ t.clusters[c].st = u.clusters[c].st ∧
          (∀ d : Fin Config.maxClusters, d ≠ c → t.clusters[d] = u.clusters[d]) ∧ pAfter s t 1 ∧
          t = { u with clusters := t.clusters, ws := false, held := none, p := t.p }) ∧
      (u.clusters[c].sm.getLsbD n.val = true → (∃ m, ¬waits m) →
        exec (.smTestSet jk) s = .next waiting) ∧
      ∀ ws, u.clusters[c].sm.getLsbD n.val = true → (∀ m, waits m) → packageAt u ws → runnable ws →
        exchanges (exec (.smTestSet jk) s) waiting (s.flags.union (causeDl.union (pendingCauses waiting))) ws

/-- A shared-register write joins the queue and, once delivered, changes the one register it names (40 R200, R201, 42
R252, 44 R355, R356). The place of a semaphore in Si is the model's choice (log 18). -/
def Obligations.SharedWrites : Prop :=
  ∀ (i j : BitVec 3) (jk : BitVec 6) (n : Fin 32) (c : Fin Config.maxClusters) (s : State), jk.toNat = n.val →
    s.cln.toNat = c.val + 1 → c.val < nclusters s.sys →
    let bit (v : Bool) (x y : Cluster) : Prop := y.sb = x.sb ∧ y.st = x.st ∧
      ∀ m < 32, y.sm.getLsbD m = if m = n.val then v else x.sm.getLsbD m
    queuesWrite (exec (.smClear jk) s) s c (bit false) ∧ queuesWrite (exec (.smSet jk) s) s c (bit true) ∧
      queuesWrite (exec (.smFromS i) s) s c (fun x y => y.sb = x.sb ∧ y.st = x.st ∧
        ∀ m < 32, y.sm.getLsbD m = (reg s.s i).getLsbD (63 - m)) ∧
      queuesWrite (exec (.sbFromA i j) s) s c (fun x y => y.st = x.st ∧ y.sm = x.sm ∧
        ∀ r, reg y.sb r = if r = j then reg s.a i else reg x.sb r) ∧
      queuesWrite (exec (.stFromS i j) s) s c (fun x y => y.sb = x.sb ∧ y.sm = x.sm ∧
        ∀ r, reg y.st r = if r = j then reg s.s i else reg x.st r)

/-- A shared-register read first delivers this CPU's own writes, then reads the one copy (42 R250, 44 R351, R352). The
place of a semaphore in Si is the model's choice (log 18). -/
def Obligations.SharedReads : Prop :=
  ∀ (i j : BitVec 3) (c : Fin Config.maxClusters) (s : State), s.cln.toNat = c.val + 1 → c.val < nclusters s.sys →
    let u := deliverAll s
    writesA (exec (.aFromSb i j) s) u i 1 (· = reg u.clusters[c].sb j) ∧
      writesS (exec (.sFromSt i j) s) u i 1 (· = reg u.clusters[c].st j) ∧
      writesS (exec (.sFromSm i) s) u i 1 (fun w => ∀ p < 64,
        w.getLsbD p = (decide (32 ≤ p) && u.clusters[c].sm.getLsbD (63 - p)))

/-- With CLN 0 or above NCLUSTERS every shared-register and semaphore instruction is refused (40 R160 b). It is the
spec's decision D24 (log 45), and NCLUSTERS = NCPU + 1 its recommendation (log 1). -/
def Obligations.NoClusterStops : Prop :=
  ∀ (i j : BitVec 3) (jk : BitVec 6) (s : State), s.cln.toNat = 0 ∨ nclusters s.sys < s.cln.toNat →
    exec (.smTestSet jk) s = .refused .noCluster ∧ exec (.smClear jk) s = .refused .noCluster ∧
      exec (.smSet jk) s = .refused .noCluster ∧ exec (.smFromS i) s = .refused .noCluster ∧
      exec (.sFromSm i) s = .refused .noCluster ∧ exec (.sbFromA i j) s = .refused .noCluster ∧
      exec (.aFromSb i j) s = .refused .noCluster ∧ exec (.stFromS i j) s = .refused .noCluster ∧
      exec (.sFromSt i j) s = .refused .noCluster

/-! ## Operation codes 005 to 017 (spec/41_branch.md) -/

/-- The jumps go to their target, and 007 leaves the address after itself in B00 (41 R221 to R223). How a B register
holds a 24-bit P is the spec's decision D53. -/
def Obligations.Jumps : Prop :=
  ∀ (jk : BitVec 6) (target : BitVec 24) (s : State),
    Listed (wordJk 0o005 0 jk) (.jumpB jk) ∧ Listed (wordBranch 0o006 target) (.jump target) ∧
      Listed (wordBranch 0o007 target) (.returnJump target) ∧
      (∃ t, exec (.jumpB jk) s = .next t ∧ t.p.toNat = (reg64 s.b jk).toNat % 2 ^ 24 ∧ t = { s with p := t.p }) ∧
      jumpsTo (exec (.jump target) s) s target ∧
      ∃ t, exec (.returnJump target) s = .next t ∧ t.p = target ∧
        (reg64 t.b 0).toNat = (s.p.toNat + 2) % 2 ^ 24 ∧ (∀ r, r ≠ 0 → reg64 t.b r = reg64 s.b r) ∧
        t = { s with b := t.b, p := t.p }

/-- The conditional branches jump exactly when their condition holds, and else go on by two parcels (41 R224 to R231).
That positive includes zero for S0 is the spec's decision D40. -/
def Obligations.ConditionalBranches : Prop :=
  ∀ (t : BitVec 24) (s : State),
    let branch (gh : BitVec 7) (i : Instr) (taken : Prop) : Prop := Listed (wordBranch gh t) i ∧
      (taken → jumpsTo (exec i s) s t) ∧ (¬taken → goesOn (exec i s) s 2)
    branch 0o010 (.jaz t) ((reg s.a 0).toNat = 0) ∧ branch 0o011 (.jan t) ((reg s.a 0).toNat ≠ 0) ∧
      branch 0o012 (.jap t) (0 ≤ (reg s.a 0).toInt) ∧ branch 0o013 (.jam t) ((reg s.a 0).toInt < 0) ∧
      branch 0o014 (.jsz t) ((reg s.s 0).toNat = 0) ∧ branch 0o015 (.jsn t) ((reg s.s 0).toNat ≠ 0) ∧
      branch 0o016 (.jsp t) (0 ≤ (reg s.s 0).toInt) ∧ branch 0o017 (.jsm t) ((reg s.s 0).toInt < 0)

/-! ## Operation codes 020 to 037 (spec/42_a_register.md) -/

/-- Immediates and transfers into A and B registers (42 R241 to R247). The order of the parcels m and n is the model's
choice (log 3); the low half of (Sj) is the spec's decision D18. -/
def Obligations.AddressTransfers : Prop :=
  ∀ (i j : BitVec 3) (jk : BitVec 6) (exp : AWord) (s : State),
    (Listed (wordExp 0o020 i exp) (.aExp i exp) ∧ Listed (wordExp 0o021 i exp) (.aExpNot i exp) ∧
        Listed (wordJk 0o022 i jk) (.aShort i jk) ∧ Listed (word1 0o023 i j 0) (.aFromS i j) ∧
        Listed (word1 0o023 i 0 1) (.aFromVl i) ∧ Listed (wordJk 0o024 i jk) (.aFromB i jk) ∧
        Listed (wordJk 0o025 i jk) (.bFromA i jk)) ∧
      writesA (exec (.aExp i exp) s) s i 3 (· = exp) ∧
      writesA (exec (.aExpNot i exp) s) s i 3 (fun x => x.toNat = 2 ^ 32 - 1 - exp.toNat) ∧
      writesA (exec (.aShort i jk) s) s i 1 (fun x => x.toNat = jk.toNat) ∧
      writesA (exec (.aFromS i j) s) s i 1 (fun x => x.toNat = (readSj s j).toNat % 2 ^ 32) ∧
      writesA (exec (.aFromVl i) s) s i 1 (fun x => x.toNat = s.vl.toNat) ∧
      writesA (exec (.aFromB i jk) s) s i 1 (· = reg64 s.b jk) ∧
      ∃ t, exec (.bFromA i jk) s = .next t ∧ reg64 t.b jk = reg s.a i ∧ (∀ r, r ≠ jk → reg64 t.b r = reg64 s.b r) ∧
        pAfter s t 1 ∧ t = { s with b := t.b, p := t.p }

/-- Population count, its parity and the leading-zero count of (Sj) (42 R248, R249, R251). Parity as the low bit of
the count is the spec's inference in R249. -/
def Obligations.BitCounts : Prop :=
  ∀ (i j : BitVec 3) (s : State),
    let w := readSj s j
    let ones := (Finset.univ.filter fun p : Fin 64 => w.getLsbD p.val = true).card
    (Listed (word1 0o026 i j 0) (.aPop i j) ∧ Listed (word1 0o026 i j 1) (.aParity i j) ∧
        Listed (word1 0o027 i j 0) (.aLzc i j)) ∧
      writesA (exec (.aPop i j) s) s i 1 (fun x => x.toNat = ones) ∧
      writesA (exec (.aParity i j) s) s i 1 (fun x => x.toNat = ones % 2) ∧
      writesA (exec (.aLzc i j) s) s i 1 (fun x => x.toNat ≤ 64 ∧
        (∀ p < 64, 64 - x.toNat ≤ p → w.getLsbD p = false) ∧ (x.toNat < 64 → w.getLsbD (63 - x.toNat) = true))

/-- Sum, difference and product of A registers modulo 2^32, with their special forms (42 R253 to R255). Wrapping and
the low half of the product are the spec's decisions D11 and D13. -/
def Obligations.AddressArithmetic : Prop :=
  ∀ (i j k : BitVec 3) (s : State),
    let x := (readAj s j).toNat
    let y := (readAk s k).toNat
    (Listed (word1 0o030 i j k) (.aAdd i j k) ∧ Listed (word1 0o031 i j k) (.aSub i j k) ∧
        Listed (word1 0o032 i j k) (.aMul i j k)) ∧
      writesA (exec (.aAdd i j k) s) s i 1 (fun r => r.toNat = (x + y) % 2 ^ 32) ∧
      writesA (exec (.aSub i j k) s) s i 1 (fun r => r.toNat = (x + 2 ^ 32 - y) % 2 ^ 32) ∧
      writesA (exec (.aMul i j k) s) s i 1 (fun r => r.toNat = (x * y) % 2 ^ 32) ∧
      writesA (exec (.aCopy i k) s) s i 1 (fun r => r.toNat = y) ∧
      writesA (exec (.aInc i j) s) s i 1 (fun r => r.toNat = (x + 1) % 2 ^ 32) ∧
      writesA (exec (.aMinusOne i) s) s i 1 (fun r => r.toNat = 2 ^ 32 - 1) ∧
      writesA (exec (.aNeg i k) s) s i 1 (fun r => r.toNat = (2 ^ 32 - y) % 2 ^ 32) ∧
      writesA (exec (.aDec i j) s) s i 1 (fun r => r.toNat = (x + 2 ^ 32 - 1) % 2 ^ 32)

/-- The channel reads: the requesting channel of lowest number or 0, the current address, the error flag (42 R256 to
R258); a number that is no configured channel is refused by name (40 R160). The priority is the model's choice (log
34), the refusal the spec's decision D42; which channels are configured is a parameter of the system (log 1). -/
def Obligations.ChannelReads : Prop :=
  ∀ (i j : BitVec 3) (s : State),
    let requests (m : Fin 64) : Prop := configured s m ∧ s.chans[m].int = true
    writesA (exec (.aChanInt i) s) s i 1 (fun x =>
        ((∀ m, ¬requests m) → x.toNat = 0) ∧
          ∀ m, requests m → (∀ l, l < m → ¬requests l) → x.toNat = m.val + 0o20) ∧
      (∀ n : Fin 64, configured s n → (reg s.a j).toNat = n.val + 0o20 →
        writesA (exec (.aChanAddr i j) s) s i 1 (· = s.chans[n].ca) ∧
          writesA (exec (.aChanErr i j) s) s i 1 (fun x => x.toNat = if s.chans[n].err then 1 else 0)) ∧
      ((∀ n : Fin 64, configured s n → (reg s.a j).toNat ≠ n.val + 0o20) →
        exec (.aChanAddr i j) s = .refused .noSuchChannel ∧ exec (.aChanErr i j) s = .refused .noSuchChannel)

/-- Block loads of B and T registers from memory complete on readable words; while no other agent acts they move the
words to consecutive registers, modulo 64, and leave every byte. A count above 64 is refused by name (42 R263, R264,
R266). The shift of the base is the model's choice (log 4); count, wrap and half are the spec's D18 to D20 (log 46). -/
def Obligations.BlockLoads : Prop :=
  ∀ (i : BitVec 3) (jk : BitVec 6) (s : State),
    let n := (reg s.a i).toNat
    let at_ (e : Nat) : AWord := reg s.a 0 + BitVec.ofNat 32 e
    let into (m e : Nat) : Prop := m = (jk.toNat + e) % 64
    let loadsB (out : Result) : Prop := ∃ t, out = .next t ∧ sameButShared s t ∧ t.a = s.a ∧ t.s = s.s ∧ t.t = s.t ∧
      t.v = s.v ∧ pAfter s t 1 ∧ (∀ r : BitVec 6, (∀ e < n, ¬into r.toNat e) → reg64 t.b r = reg64 s.b r) ∧
      (s.inputs = [] → (∀ b, byteAt t b = byteAt s b) ∧ t.cache = s.cache ∧
        ∀ (r : BitVec 6) (e : Nat), e < n → into r.toNat e →
          ∃ w, wordAt s (absoluteOf s (at_ e)) = some w ∧ (reg64 t.b r).toNat = w.toNat % 2 ^ 32)
    let loadsT (out : Result) : Prop := ∃ t, out = .next t ∧ sameButShared s t ∧ t.a = s.a ∧ t.s = s.s ∧ t.b = s.b ∧
      t.v = s.v ∧ pAfter s t 1 ∧ (∀ r : BitVec 6, (∀ e < n, ¬into r.toNat e) → reg64 t.t r = reg64 s.t r) ∧
      (s.inputs = [] → (∀ b, byteAt t b = byteAt s b) ∧ t.cache = s.cache ∧
        ∀ (r : BitVec 6) (e : Nat), e < n → into r.toNat e →
          wordAt s (absoluteOf s (at_ e)) = some (reg64 t.t r))
    (n ≤ 64 → readable s n at_ →
        loadsB (exec (.loadB i jk) s) ∧ loadsB (exec (.loadBZero i jk) s) ∧ loadsT (exec (.loadT i jk) s) ∧
          loadsT (exec (.loadTZero i jk) s)) ∧
      (64 < n → exec (.loadB i jk) s = .refused .blockCount ∧ exec (.loadBZero i jk) s = .refused .blockCount ∧
        exec (.loadT i jk) s = .refused .blockCount ∧ exec (.loadTZero i jk) s = .refused .blockCount)

/-- Block stores of B and T registers to memory: consecutive words hold consecutive registers, modulo 64, B
zero-extended, every other byte is as before, and the words are known to be stored into (20 R108). A count above 64 is
refused by name (42 R263, R265, R267). The shift of the base is the model's choice (log 4), so is that a cache line
stays (log 24); count, wrap and half are the spec's D18 to D20 (log 46). -/
def Obligations.BlockStores : Prop :=
  ∀ (i : BitVec 3) (jk : BitVec 6) (s : State),
    let n := (reg s.a i).toNat
    let at_ (e : Nat) : AWord := reg s.a 0 + BitVec.ofNat 32 e
    let from_ (e : Nat) : BitVec 6 := BitVec.ofNat 6 (jk.toNat + e)
    let moves (out : Result) (value : Nat → Word) : Prop := ∃ t, out = .next t ∧ stored s t n at_ value ∧
      pAfter s t 1 ∧ t = { s with pending := t.pending, ibufStored := t.ibufStored, p := t.p }
    (n ≤ 64 → writable s n at_ →
        moves (exec (.storeB i jk) s) (fun e => BitVec.ofNat 64 (reg64 s.b (from_ e)).toNat) ∧
          moves (exec (.storeBZero i jk) s) (fun e => BitVec.ofNat 64 (reg64 s.b (from_ e)).toNat) ∧
          moves (exec (.storeT i jk) s) (fun e => reg64 s.t (from_ e)) ∧
          moves (exec (.storeTZero i jk) s) (fun e => reg64 s.t (from_ e))) ∧
      (64 < n → exec (.storeB i jk) s = .refused .blockCount ∧ exec (.storeBZero i jk) s = .refused .blockCount ∧
        exec (.storeT i jk) s = .refused .blockCount ∧ exec (.storeTZero i jk) s = .refused .blockCount)

/-! ## Operation codes 040 to 061 (spec/43_s_register_integer.md) -/

/-- Immediates and masks (43 R281 to R284), with the special forms of the masks. The order of the parcels m and n is
the model's choice (log 3); the extension to 64 bits is the spec's decision D18. -/
def Obligations.ScalarImmediates : Prop :=
  ∀ (i : BitVec 3) (jk : BitVec 6) (exp : AWord) (s : State),
    let right (n : Nat) (w : Word) : Prop := ∀ p < 64, w.getLsbD p = decide (p < n)
    let left (n : Nat) (w : Word) : Prop := ∀ p < 64, w.getLsbD p = decide (64 ≤ p + n)
    (Listed (wordExp 0o040 i exp) (.sExp i exp) ∧ Listed (wordExp 0o041 i exp) (.sExpNot i exp) ∧
        Listed (wordJk 0o042 i jk) (.sMaskRight i jk) ∧ Listed (wordJk 0o043 i jk) (.sMaskLeft i jk)) ∧
      writesS (exec (.sExp i exp) s) s i 3 (fun w => w.toNat = exp.toNat) ∧
      writesS (exec (.sExpNot i exp) s) s i 3 (fun w => w.toNat = 2 ^ 64 - 1 - exp.toNat) ∧
      writesS (exec (.sMaskRight i jk) s) s i 1 (right (64 - jk.toNat)) ∧
      writesS (exec (.sZeroesLeft i jk) s) s i 1 (right (64 - jk.toNat)) ∧
      writesS (exec (.sIntOne i) s) s i 1 (right 1) ∧ writesS (exec (.sMinusOne i) s) s i 1 (right 64) ∧
      writesS (exec (.sMaskLeft i jk) s) s i 1 (left jk.toNat) ∧
      writesS (exec (.sZeroesRight i jk) s) s i 1 (left jk.toNat) ∧ writesS (exec (.sClear i) s) s i 1 (left 0)

/-- The logical operations, bit by bit, with their special forms (43 R285 to R290). -/
def Obligations.ScalarLogical : Prop :=
  ∀ (i j k : BitVec 3) (s : State),
    let bits (out : Result) (f : Bool → Bool → Bool → Bool) (x y : Word) : Prop :=
      writesS out s i 1 fun w => ∀ p < 64, w.getLsbD p = f (x.getLsbD p) (y.getLsbD p) ((reg s.s i).getLsbD p)
    let x := readSj s j
    let y := readSk s k
    let sb : Word := BitVec.twoPow 64 63
    (Listed (word1 0o044 i j k) (.sAnd i j k) ∧ Listed (word1 0o045 i j k) (.sAndNot i j k) ∧
        Listed (word1 0o046 i j k) (.sXor i j k) ∧ Listed (word1 0o047 i j k) (.sXnor i j k) ∧
        Listed (word1 0o050 i j k) (.sMerge i j k) ∧ Listed (word1 0o051 i j k) (.sOr i j k)) ∧
      bits (exec (.sAnd i j k) s) (fun a b _ => a && b) x y ∧ bits (exec (.sSignOf i j) s) (fun a b _ => a && b) x sb ∧
      bits (exec (.sSignOf2 i j) s) (fun a b _ => a && b) x sb ∧
      bits (exec (.sAndNot i j k) s) (fun a b _ => a && !b) x y ∧
      bits (exec (.sClearSign i j) s) (fun a b _ => a && !b) x sb ∧
      bits (exec (.sXor i j k) s) (fun a b _ => a != b) x y ∧
      bits (exec (.sToggleSign i j) s) (fun a b _ => a != b) x sb ∧
      bits (exec (.sToggleSign2 i j) s) (fun a b _ => a != b) x sb ∧
      bits (exec (.sXnor i j k) s) (fun a b _ => a == b) x y ∧ bits (exec (.sNot i k) s) (fun _ b _ => !b) x y ∧
      bits (exec (.sXnorSign i j) s) (fun a b _ => a == b) x sb ∧
      bits (exec (.sXnorSign2 i j) s) (fun a b _ => a == b) x sb ∧
      bits (exec (.sNotSign i) s) (fun _ b _ => !b) x sb ∧
      bits (exec (.sMerge i j k) s) (fun a b c => if b then a else c) x y ∧
      bits (exec (.sMergeSign i j) s) (fun a b c => if b then a else c) x sb ∧
      bits (exec (.sOr i j k) s) (fun a b _ => a || b) x y ∧ bits (exec (.sCopy i k) s) (fun _ b _ => b) x y ∧
      bits (exec (.sSetSign i j) s) (fun a b _ => a || b) x sb ∧
      bits (exec (.sSetSign2 i j) s) (fun a b _ => a || b) x sb ∧ bits (exec (.sSignBit i) s) (fun _ b _ => b) x sb

/-- The single shifts: left by jk, right by 64 - jk, end-off with zero fill, into S0 or Si (43 R291 to R294). -/
def Obligations.ScalarShifts : Prop :=
  ∀ (i : BitVec 3) (jk : BitVec 6) (s : State),
    let x := reg s.s i
    let left (w : Word) : Prop := w.toNat = (x.toNat * 2 ^ jk.toNat) % 2 ^ 64
    let right (w : Word) : Prop := w.toNat = x.toNat / 2 ^ (64 - jk.toNat)
    (Listed (wordJk 0o052 i jk) (.s0ShiftLeft i jk) ∧ Listed (wordJk 0o053 i jk) (.s0ShiftRight i jk) ∧
        Listed (wordJk 0o054 i jk) (.sShiftLeft i jk) ∧ Listed (wordJk 0o055 i jk) (.sShiftRight i jk)) ∧
      writesS (exec (.s0ShiftLeft i jk) s) s 0 1 left ∧ writesS (exec (.s0ShiftRight i jk) s) s 0 1 right ∧
      writesS (exec (.sShiftLeft i jk) s) s i 1 left ∧ writesS (exec (.sShiftRight i jk) s) s i 1 right

/-- The double shifts take the high half of (Si)‖(Sj) shifted left, the low half of (Sj)‖(Si) shifted right, by the
whole unsigned (Ak), with their special forms (43 R295, R296). Zero fill and the whole count are the spec's decision
D12. -/
def Obligations.ScalarDoubleShifts : Prop :=
  ∀ (i j k : BitVec 3) (s : State),
    let left (high low : Word) (c : Nat) (w : Word) : Prop :=
      w.toNat = ((high.toNat * 2 ^ 64 + low.toNat) * 2 ^ c) % 2 ^ 128 / 2 ^ 64
    let right (high low : Word) (c : Nat) (w : Word) : Prop :=
      w.toNat = (high.toNat * 2 ^ 64 + low.toNat) / 2 ^ c % 2 ^ 64
    let c := (readAk s k).toNat
    (Listed (word1 0o056 i j k) (.sDoubleLeft i j k) ∧ Listed (word1 0o057 i j k) (.sDoubleRight i j k)) ∧
      writesS (exec (.sDoubleLeft i j k) s) s i 1 (left (reg s.s i) (readSj s j) c) ∧
      writesS (exec (.sDoubleLeftOne i j) s) s i 1 (left (reg s.s i) (readSj s j) 1) ∧
      writesS (exec (.sLeftByA i k) s) s i 1 (left (reg s.s i) 0 c) ∧
      writesS (exec (.sDoubleRight i j k) s) s i 1 (right (readSj s j) (reg s.s i) c) ∧
      writesS (exec (.sDoubleRightOne i j) s) s i 1 (right (readSj s j) (reg s.s i) 1) ∧
      writesS (exec (.sRightByA i k) s) s i 1 (right 0 (reg s.s i) c)

/-- Integer sum and difference modulo 2^64, and the negative of (Sk) (43 R297, R298). -/
def Obligations.ScalarInteger : Prop :=
  ∀ (i j k : BitVec 3) (s : State),
    let x := (readSj s j).toNat
    let y := (readSk s k).toNat
    (Listed (word1 0o060 i j k) (.sAdd i j k) ∧ Listed (word1 0o061 i j k) (.sSub i j k)) ∧
      writesS (exec (.sAdd i j k) s) s i 1 (fun w => w.toNat = (x + y) % 2 ^ 64) ∧
      writesS (exec (.sSub i j k) s) s i 1 (fun w => w.toNat = (x + 2 ^ 64 - y) % 2 ^ 64) ∧
      writesS (exec (.sNeg i k) s) s i 1 (fun w => w.toNat = (2 ^ 64 - y) % 2 ^ 64)

/-! ## Operation codes 062 to 077 (spec/44_s_register_float_transfer.md) -/

/-- A scalar floating-point instruction writes its configuration function's value. With IFP = 0 nothing else changes;
with IFP = 1 either there is no error and nothing else changes, or there is one and it exchanges with FPE, the result
written and P after it (44 R330 to R337, 60 R513). One function for the scalar and the vector unit, and the saved P,
are the spec's decisions D14 and D28 (logs 13, 30). That FPE is taken in either mode is the spec's decision D34 (log
29). -/
def Obligations.ScalarFloat : Prop :=
  ∀ (i j k : BitVec 3) (s : State),
    let x := readSj s j
    let y := readSk s k
    let float (ins : Instr) (value : Word) (error : Bool) : Prop :=
      (s.modes.ifp = false → writesS (exec ins s) s i 1 (· = value)) ∧
        (s.modes.ifp = true →
          (error = false ∧ writesS (exec ins s) s i 1 (· = value)) ∨
            (error = true ∧ ∀ ws, packageAt s ws → runnable ws →
              exchanges (exec ins s) { s with s := setReg s.s i value, p := s.p + 1 }
                (s.flags.union (causeFpe.union (pendingCauses s))) ws))
    float (.sFadd i j k) (Config.fadd x y) (Config.fpError .fadd x y) ∧
      float (.sFsub i j k) (Config.fsub x y) (Config.fpError .fsub x y) ∧
      float (.sFmul i j k) (Config.fmul x y) (Config.fpError .fmul x y) ∧
      float (.sFmulH i j k) (Config.fmulh x y) (Config.fpError .fmulh x y) ∧
      float (.sFmulR i j k) (Config.fmulr x y) (Config.fpError .fmulr x y) ∧
      float (.sRecipIter i j k) (Config.frecipIter x y) (Config.fpError .frecipIter x y) ∧
      float (.sRecip i j) (Config.frecipApprox x) (Config.fpError .frecipApprox x 0) ∧
      float (.sFnormalize i k) (Config.fadd 0 y) (Config.fpError .fadd 0 y) ∧
      float (.sFnegate i k) (Config.fsub 0 y) (Config.fpError .fsub 0 y)

/-- Transfers from A, and the constants (44 R341 to R348). The values of the constants and of the unnormalized number are
the model's choice (log 14). -/
def Obligations.TransfersFromA : Prop :=
  ∀ (i k : BitVec 3) (s : State),
    let x := readAk s k
    writesS (exec (.sFromA i k) s) s i 1 (fun w => w.toNat = x.toNat) ∧
      writesS (exec (.sFromASigned i k) s) s i 1 (fun w => w.toInt = x.toInt) ∧
      writesS (exec (.sFloatFromA i k) s) s i 1 (fun w => w.toNat % 2 ^ 48 = x.toInt.natAbs ∧
        w.toNat / 2 ^ 48 % 2 ^ 15 = 0o40060 ∧ (w.getLsbD 63 = true ↔ x.toInt < 0)) ∧
      writesS (exec (.sThreeQuarters i) s) s i 1 (· = 0x4030C00000000000) ∧
      writesS (exec (.sHalf i) s) s i 1 (· = 0x4000800000000000) ∧
      writesS (exec (.sOne i) s) s i 1 (· = 0x4001800000000000) ∧
      writesS (exec (.sTwo i) s) s i 1 (· = 0x4002800000000000) ∧
      writesS (exec (.sFour i) s) s i 1 (· = 0x4003800000000000)

/-- RTC and VM are read into Si; SR0 gives Si a free value and changes nothing else (44 R350, R353, R354). The free
value is the spec's decision D37 (log 12). -/
def Obligations.SpecialReads : Prop :=
  ∀ (i : BitVec 3) (s : State),
    writesS (exec (.sFromRt i) s) s i 1 (· = s.rtc) ∧ writesS (exec (.sFromVm i) s) s i 1 (· = s.vm) ∧
      ∃ t, exec (.sFromSr0 i) s = .next t ∧ (∀ r, r ≠ i → reg t.s r = reg s.s r) ∧ pAfter s t 1 ∧
        t = { s with s := t.s, p := t.p, seq := t.seq }

/-- Transfers between S and T registers, and between S registers and the element (Ak) modulo 64 of a V register (44
R361 to R364). The element number modulo 64 is the model's choice (log 46). -/
def Obligations.TAndElementTransfers : Prop :=
  ∀ (i j k : BitVec 3) (jk : BitVec 6) (s : State),
    let e := (readAk s k).toNat % 64
    let puts (out : Result) (value : Word) : Prop := ∃ t, out = .next t ∧
      (∀ f < 64, element t i f = if f = e then value else element s i f) ∧ (∀ r, r ≠ i → reg t.v r = reg s.v r) ∧
      pAfter s t 1 ∧ t = { s with v := t.v, p := t.p }
    (Listed (wordJk 0o074 i jk) (.sFromT i jk) ∧ Listed (wordJk 0o075 i jk) (.tFromS i jk) ∧
        Listed (word1 0o076 i j k) (.sFromV i j k) ∧ Listed (word1 0o077 i j k) (.vFromS i j k)) ∧
      writesS (exec (.sFromT i jk) s) s i 1 (· = reg64 s.t jk) ∧
      (∃ t, exec (.tFromS i jk) s = .next t ∧ reg64 t.t jk = reg s.s i ∧ (∀ r, r ≠ jk → reg64 t.t r = reg64 s.t r) ∧
        pAfter s t 1 ∧ t = { s with t := t.t, p := t.p }) ∧
      writesS (exec (.sFromV i j k) s) s i 1 (· = element s j e) ∧ puts (exec (.vFromS i j k) s) (readSj s j) ∧
      puts (exec (.vClearElement i k) s) 0

/-! ## Operation codes 10h to 13h (spec/45_scalar_memory.md) -/

/-- A scalar load in range reads the cached word, or memory, at ((Ah) + exp) modulo 2^32, and with CE = 1 leaves that
word in its cache line or, the line being absent, no line changed (20 R100, 45 R390, R392, R394). The shift of the
base is the model's choice (log 4), so is when a line is kept (log 24); the widths are D18 and D19. -/
def Obligations.ScalarLoads : Prop :=
  ∀ (h i : BitVec 3) (exp l : AWord) (w : Word) (s : State),
    dataInRange s l = true → scalarValue s (absoluteOf s l) = some w →
      let intoA (out : Result) : Prop :=
        loads out s (absoluteOf s l) w fun u => { u with a := setReg u.a i (BitVec.ofNat 32 w.toNat) }
      let intoS (out : Result) : Prop := loads out s (absoluteOf s l) w fun u => { u with s := setReg u.s i w }
      (l.toNat = ((readAh s h).toNat + exp.toNat) % 2 ^ 32 →
          intoA (exec (.loadA h i exp) s) ∧ intoS (exec (.loadS h i exp) s)) ∧
        (l = exp → intoA (exec (.loadAAbs i exp) s) ∧ intoA (exec (.loadAAbs2 i exp) s) ∧
          intoS (exec (.loadSAbs i exp) s) ∧ intoS (exec (.loadSAbs2 i exp) s)) ∧
        (l = readAh s h → intoA (exec (.loadAInd h i) s) ∧ intoS (exec (.loadSInd h i) s))

/-- A scalar store in range writes the whole word at ((Ah) + exp) modulo 2^32, an A register zero-extended, through
the cache to memory, and makes it known to be stored into (20 R100, R108, 45 R391, R393, R394). The shift of the base
is the model's choice (log 4), so is when a line is kept (log 24); the widths are D18 and D19. -/
def Obligations.ScalarStores : Prop :=
  ∀ (h i : BitVec 3) (exp l : AWord) (s : State),
    dataInRange s l = true → absoluteOf s l < memWords s.sys →
      let fromA (out : Result) : Prop := stores out s (absoluteOf s l) (BitVec.ofNat 64 (reg s.a i).toNat)
      let fromS (out : Result) : Prop := stores out s (absoluteOf s l) (reg s.s i)
      (l.toNat = ((readAh s h).toNat + exp.toNat) % 2 ^ 32 →
          fromA (exec (.storeA h i exp) s) ∧ fromS (exec (.storeS h i exp) s)) ∧
        (l = exp → fromA (exec (.storeAAbs i exp) s) ∧ fromA (exec (.storeAAbs2 i exp) s) ∧
          fromS (exec (.storeSAbs i exp) s) ∧ fromS (exec (.storeSAbs2 i exp) s)) ∧
        (l = readAh s h → fromA (exec (.storeAInd h i) s) ∧ fromS (exec (.storeSInd h i) s))

/-- A reference out of range: with IOR = 0 refused by name; with IOR = 1 an exchange with ORE, P after the
instruction. Of a scalar reference nothing else is done; of a block transfer or a vector load or store the first
reference that fails decides, whatever would follow it, and each destination of an abandoned one, a register, an
element or a word, holds its old or its new value (20 R87, R111, 42 R263, 45 R394, 47 R478, 60 R514). The saved P and
the destinations are the spec's decisions D28 and D55 (logs 30, 31), the refusal with IOR = 0 its reading in 20 R87,
the faults logs 6 and 7. That ORE is taken in either mode is the spec's decision D34 (log 29). -/
def Obligations.OperandRangeError : Prop :=
  ∀ s : State,
    (∀ (h i : BitVec 3) (exp l : AWord), dataInRange s l = false →
      let ends (ins : Instr) : Prop :=
        (s.modes.ior = false → exec ins s = .refused .operandRange) ∧
          ∀ ws, s.modes.ior = true → packageAt s ws → runnable ws →
            exchanges (exec ins s) { s with p := s.p + 3 } (s.flags.union (causeOre.union (pendingCauses s))) ws
      (l.toNat = ((readAh s h).toNat + exp.toNat) % 2 ^ 32 →
          ends (.loadA h i exp) ∧ ends (.storeA h i exp) ∧ ends (.loadS h i exp) ∧ ends (.storeS h i exp)) ∧
        (l = exp → ends (.loadAAbs i exp) ∧ ends (.loadAAbs2 i exp) ∧ ends (.storeAAbs i exp) ∧
          ends (.storeAAbs2 i exp) ∧ ends (.loadSAbs i exp) ∧ ends (.loadSAbs2 i exp) ∧ ends (.storeSAbs i exp) ∧
          ends (.storeSAbs2 i exp)) ∧
        (l = readAh s h → ends (.loadAInd h i) ∧ ends (.storeAInd h i) ∧ ends (.loadSInd h i) ∧
          ends (.storeSInd h i))) ∧
      (∀ (i : BitVec 3) (jk : BitVec 6),
        let n := (reg s.a i).toNat
        let at_ (e : Nat) : AWord := reg s.a 0 + BitVec.ofNat 32 e
        let into (r : BitVec 6) (e : Nat) : Prop := r.toNat = (jk.toNat + e) % 64
        let from_ (e : Nat) : BitVec 6 := BitVec.ofNat 6 (jk.toNat + e)
        let loadsB (ins : Instr) : Prop := loadEnds (exec ins s) s n at_ <|
          abandonsLoad (exec ins s) s n at_ into (fun t => reg64 t.b) (fun w => BitVec.ofNat 32 w.toNat)
            fun t => t.a = s.a ∧ t.s = s.s ∧ t.t = s.t ∧ t.v = s.v
        let loadsT (ins : Instr) : Prop := loadEnds (exec ins s) s n at_ <|
          abandonsLoad (exec ins s) s n at_ into (fun t => reg64 t.t) (fun w => w)
            fun t => t.a = s.a ∧ t.s = s.s ∧ t.b = s.b ∧ t.v = s.v
        let storesB (ins : Instr) : Prop := storeEnds (exec ins s) s n at_ <|
          abandonsStore (exec ins s) s n at_ (fun e => BitVec.ofNat 64 (reg64 s.b (from_ e)).toNat) fun line => line
        let storesT (ins : Instr) : Prop := storeEnds (exec ins s) s n at_ <|
          abandonsStore (exec ins s) s n at_ (fun e => reg64 s.t (from_ e)) fun line => line
        n ≤ 64 →
          (loadsB (.loadB i jk) ∧ loadsB (.loadBZero i jk) ∧ loadsT (.loadT i jk) ∧ loadsT (.loadTZero i jk)) ∧
            storesB (.storeB i jk) ∧ storesB (.storeBZero i jk) ∧ storesT (.storeT i jk) ∧
            storesT (.storeTZero i jk)) ∧
      ∀ i k : BitVec 3, s.vl.toNat ≤ 64 →
        let a0 := (reg s.a 0).toNat
        let n := s.vl.toNat
        let strided (e : Nat) : AWord := BitVec.ofNat 32 (a0 + e * (readAk s k).toNat)
        let consecutive (e : Nat) : AWord := BitVec.ofNat 32 (a0 + e)
        let indexed (e : Nat) : AWord := BitVec.ofNat 32 (a0 + (element s k e).toNat)
        let load (ins : Instr) (at_ : Nat → AWord) : Prop := loadEnds (exec ins s) s n at_ <|
          abandonsLoad (exec ins s) s n at_ (fun r e => r.toNat = e) (fun t r => element t i r.toNat) (fun w => w)
            fun t => t.a = s.a ∧ t.s = s.s ∧ t.b = s.b ∧ t.t = s.t ∧ ∀ r, r ≠ i → reg t.v r = reg s.v r
        let store (ins : Instr) (at_ : Nat → AWord) : Prop := storeEnds (exec ins s) s n at_ <|
          abandonsStore (exec ins s) s n at_ (element s i) fun _ => none
        load (.vLoad i k) strided ∧ load (.vLoadOne i) consecutive ∧ load (.vGather i k) indexed ∧
          store (.vStore i k) strided ∧ store (.vStoreOne i) consecutive ∧ store (.vScatter i k) indexed

/-! ## Operation codes 140 to 157 (spec/46_vector_logical_shift_integer.md) -/

/-- The vector logical operations and merges, element by element and bit by bit, with their special forms (46 R410 to
R418). The VM bit of element e, 63 - e, is the model's choice (log 17). VL as the count is the spec's decision D32. -/
def Obligations.VectorLogical : Prop :=
  ∀ (i j k : BitVec 3) (s : State),
    let bits (out : Result) (f : Bool → Bool → Bool) (x y : Nat → Word) : Prop :=
      writesV out s i fun e w => ∀ p < 64, w.getLsbD p = f ((x e).getLsbD p) ((y e).getLsbD p)
    let picks (out : Result) (x y : Nat → Word) : Prop :=
      writesV out s i fun e w => w = if s.vm.getLsbD (63 - e) then x e else y e
    let x (_ : Nat) : Word := readSj s j
    let vj := element s j
    let vk := element s k
    bits (exec (.vsAnd i j k) s) (fun a b => a && b) x vk ∧ bits (exec (.vvAnd i j k) s) (fun a b => a && b) vj vk ∧
      bits (exec (.vsOr i j k) s) (fun a b => a || b) x vk ∧ bits (exec (.vvOr i j k) s) (fun a b => a || b) vj vk ∧
      bits (exec (.vCopy i k) s) (fun _ b => b) x vk ∧
      bits (exec (.vsXor i j k) s) (fun a b => a != b) x vk ∧
      bits (exec (.vvXor i j k) s) (fun a b => a != b) vj vk ∧
      bits (exec (.vClear i) s) (fun _ _ => false) vj vk ∧
      picks (exec (.vsMerge i j k) s) x vk ∧ picks (exec (.vMergeZero i k) s) (fun _ => 0) vk ∧
      picks (exec (.vvMerge i j k) s) vj vk

/-- Vector shifts and integer sums and differences, element by element, modulo 2^64 (46 R419, R420, R423 to R426). VL
as the count, wrapping and zero fill are the spec's decisions D32, D11 and D12. -/
def Obligations.VectorInteger : Prop :=
  ∀ (i j k : BitVec 3) (s : State),
    let c := (readAk s k).toNat
    let x := (readSj s j).toNat
    let vj (e : Nat) : Nat := (element s j e).toNat
    let vk (e : Nat) : Nat := (element s k e).toNat
    let gives (out : Result) (f : Nat → Nat) : Prop := writesV out s i fun e w => w.toNat = f e
    (Listed (word1 0o150 i j k) (.vShiftLeft i j k) ∧ Listed (word1 0o151 i j k) (.vShiftRight i j k) ∧
        Listed (word1 0o154 i j k) (.vsAdd i j k) ∧ Listed (word1 0o155 i j k) (.vvAdd i j k) ∧
        Listed (word1 0o156 i j k) (.vsSub i j k) ∧ Listed (word1 0o157 i j k) (.vvSub i j k)) ∧
      gives (exec (.vShiftLeft i j k) s) (fun e => vj e * 2 ^ c % 2 ^ 64) ∧
      gives (exec (.vLeftOne i j) s) (fun e => vj e * 2 % 2 ^ 64) ∧
      gives (exec (.vShiftRight i j k) s) (fun e => vj e / 2 ^ c) ∧ gives (exec (.vRightOne i j) s) (fun e => vj e / 2) ∧
      gives (exec (.vsAdd i j k) s) (fun e => (x + vk e) % 2 ^ 64) ∧
      gives (exec (.vvAdd i j k) s) (fun e => (vj e + vk e) % 2 ^ 64) ∧
      gives (exec (.vsSub i j k) s) (fun e => (x + 2 ^ 64 - vk e) % 2 ^ 64) ∧
      gives (exec (.vNeg i k) s) (fun e => (2 ^ 64 - vk e) % 2 ^ 64) ∧
      gives (exec (.vvSub i j k) s) (fun e => (vj e + 2 ^ 64 - vk e) % 2 ^ 64)

/-- The double vector shifts by less than 64 between different registers, and their stops (46 R421, R422). Which
elements are joined is the spec's own reading (log 46). So are the stops (D33, D48). -/
def Obligations.VectorDoubleShifts : Prop :=
  ∀ (i j k : BitVec 3) (s : State),
    let c := (readAk s k).toNat
    let v (e : Nat) : Nat := (element s j e).toNat
    let next (e : Nat) : Nat := if e + 1 = s.vl.toNat then 0 else v (e + 1)
    let previous (e : Nat) : Nat := if e = 0 then 0 else v (e - 1)
    let left (out : Result) (c : Nat) : Prop :=
      writesV out s i fun e w => w.toNat = ((v e * 2 ^ 64 + next e) * 2 ^ c) % 2 ^ 128 / 2 ^ 64
    let right (out : Result) (c : Nat) : Prop :=
      writesV out s i fun e w => w.toNat = (previous e * 2 ^ 64 + v e) / 2 ^ c % 2 ^ 64
    (i ≠ j → left (exec (.vDoubleLeftOne i j) s) 1 ∧ right (exec (.vDoubleRightOne i j) s) 1) ∧
      (i ≠ j → c < 64 → left (exec (.vDoubleLeft i j k) s) c ∧ right (exec (.vDoubleRight i j k) s) c) ∧
      (i ≠ j → 64 ≤ c → exec (.vDoubleLeft i j k) s = .refused .doubleShiftCount ∧
        exec (.vDoubleRight i j k) s = .refused .doubleShiftCount) ∧
      exec (.vDoubleLeft j j k) s = .refused .doubleShiftInPlace ∧
      exec (.vDoubleRight j j k) s = .refused .doubleShiftInPlace

/-! ## Operation codes 160 to 177 (spec/47_vector_float_mask_memory.md) -/

/-- A vector floating-point instruction writes its configuration function's value in every element below VL. With IFP
= 0 nothing else changes; with IFP = 1 either no element has an error and nothing else changes, or one has and it
exchanges with FPE after all elements are written (47 R450 to R463). The 32-bit product and the counts raise no error
(47 R457, R464, R465). One function for both units is the spec's decision D14 (log 13); the saved P and that FPE is
taken in either mode are its decisions D28 and D34 (logs 30, 29). -/
def Obligations.VectorFloat : Prop :=
  ∀ (i j k : BitVec 3) (s : State),
    let x := readSj s j
    let vj := element s j
    let vk := element s k
    let ones (w : Word) : Nat := (Finset.univ.filter fun p : Fin 64 => w.getLsbD p.val = true).card
    let float (ins : Instr) (value : Nat → Word) (error : Nat → Bool) : Prop :=
      (s.modes.ifp = false → writesV (exec ins s) s i fun e w => w = value e) ∧
        (s.modes.ifp = true →
          ((∀ e < s.vl.toNat, error e = false) ∧ writesV (exec ins s) s i fun e w => w = value e) ∨
            ((∃ e < s.vl.toNat, error e = true) ∧ ∀ ws, packageAt s ws → runnable ws →
              exchanges (exec ins s) { s with v := setReg s.v i (vectorWith s.vl (reg s.v i) value), p := s.p + 1 }
                (s.flags.union (causeFpe.union (pendingCauses s))) ws))
    let pair (vs vv : Instr) (op : Config.FpOp) (f : Word → Word → Word) : Prop :=
      float vs (fun e => f x (vk e)) (fun e => Config.fpError op x (vk e)) ∧
        float vv (fun e => f (vj e) (vk e)) (fun e => Config.fpError op (vj e) (vk e))
    pair (.vsFmul i j k) (.vvFmul i j k) .fmul Config.fmul ∧ pair (.vsFmulH i j k) (.vvFmulH i j k) .fmulh Config.fmulh ∧
      pair (.vsFmulR i j k) (.vvFmulR i j k) .fmulr Config.fmulr ∧
      pair (.vsFadd i j k) (.vvFadd i j k) .fadd Config.fadd ∧ pair (.vsFsub i j k) (.vvFsub i j k) .fsub Config.fsub ∧
      float (.vvRecipIter i j k) (fun e => Config.frecipIter (vj e) (vk e))
        (fun e => Config.fpError .frecipIter (vj e) (vk e)) ∧
      float (.vRecip i j) (fun e => Config.frecipApprox (vj e)) (fun e => Config.fpError .frecipApprox (vj e) 0) ∧
      float (.vFnormalize i k) (fun e => Config.fadd 0 (vk e)) (fun e => Config.fpError .fadd 0 (vk e)) ∧
      float (.vFnegate i k) (fun e => Config.fsub 0 (vk e)) (fun e => Config.fpError .fsub 0 (vk e)) ∧
      writesV (exec (.vsImul32 i j k) s) s i (fun e w => w = Config.imul32 x (vk e)) ∧
      writesV (exec (.vPop i j) s) s i (fun e w => w.toNat = ones (vj e)) ∧
      writesV (exec (.vParity i j) s) s i (fun e w => w.toNat = ones (vj e) % 2)

/-- The mask tests set the VM bit of exactly the elements below VL that meet the condition, bit 63 - e for element e;
the compressed-index forms also pack those element numbers into Vi, and stop when i = j (47 R466 to R473, R479). The
place of the bits and the cleared tail are the model's choice (log 17). So is how indexes are packed (D47, log 46). -/
def Obligations.MaskTests : Prop :=
  ∀ (i j : BitVec 3) (s : State),
    let mask (test : Word → Bool) (w : Word) : Prop :=
      ∀ e < 64, w.getLsbD (63 - e) = (decide (e < s.vl.toNat) && test (element s j e))
    let found (test : Word → Bool) : List Nat := (List.range s.vl.toNat).filter fun e => test (element s j e)
    let tests (plain indexed : BitVec 3 → Instr) (test : Word → Bool) : Prop :=
      writesVm (exec (plain j) s) s (mask test) ∧ exec (indexed j) s = .refused .compressedIndexInPlace
    let packs (ins : Instr) (test : Word → Bool) : Prop := ∃ t, exec ins s = .next t ∧ mask test t.vm ∧
      (∀ n < 64, element t i n =
        if h : n < (found test).length then BitVec.ofNat 64 (found test)[n] else element s i n) ∧
      (∀ r, r ≠ i → reg t.v r = reg s.v r) ∧ pAfter s t 1 ∧ t = { s with vm := t.vm, v := t.v, p := t.p }
    tests .vmZero (.vmZeroIdx j) (fun w => decide (w.toNat = 0)) ∧
      tests .vmNonzero (.vmNonzeroIdx j) (fun w => decide (w.toNat ≠ 0)) ∧
      tests .vmPlus (.vmPlusIdx j) (fun w => decide (0 ≤ w.toInt)) ∧
      tests .vmMinus (.vmMinusIdx j) (fun w => decide (w.toInt < 0)) ∧
      (i ≠ j → packs (.vmZeroIdx i j) (fun w => decide (w.toNat = 0)) ∧
        packs (.vmNonzeroIdx i j) (fun w => decide (w.toNat ≠ 0)) ∧
        packs (.vmPlusIdx i j) (fun w => decide (0 ≤ w.toInt)) ∧
        packs (.vmMinusIdx i j) (fun w => decide (w.toInt < 0)))

/-- A vector load completes on readable words: strided at (A0) + e * (Ak), indexed at (A0) + (Vk element e), modulo
2^32. While no other agent acts, element e below VL is its word and every byte is as before (47 R474, R475, R478). The
shift of the base is the model's choice (log 4); order, interleaving and index width are D32 and D57 (logs 21, 46). -/
def Obligations.VectorLoads : Prop :=
  ∀ (i k : BitVec 3) (s : State), s.vl.toNat ≤ 64 →
    let a0 := (reg s.a 0).toNat
    let loadsV (ins : Instr) (at_ : Nat → AWord) : Prop := readable s s.vl.toNat at_ →
      ∃ t, exec ins s = .next t ∧ sameButShared s t ∧ t.a = s.a ∧ t.s = s.s ∧ t.b = s.b ∧ t.t = s.t ∧
        (∀ r, r ≠ i → reg t.v r = reg s.v r) ∧ (∀ e < 64, s.vl.toNat ≤ e → element t i e = element s i e) ∧
        pAfter s t 1 ∧
        (s.inputs = [] → (∀ b, byteAt t b = byteAt s b) ∧ t.cache = s.cache ∧
          ∀ e < s.vl.toNat, wordAt s (absoluteOf s (at_ e)) = some (element t i e))
    loadsV (.vLoad i k) (fun e => BitVec.ofNat 32 (a0 + e * (readAk s k).toNat)) ∧
      loadsV (.vLoadOne i) (fun e => BitVec.ofNat 32 (a0 + e)) ∧
      loadsV (.vGather i k) (fun e => BitVec.ofNat 32 (a0 + (element s k e).toNat))

/-- A vector store writes its elements in order, so that the later of two to one word stays, leaves every byte of
every other word, makes the words known to be stored into, and drops their cache lines (20 R101, R108, R111, 47 R476
to R478). The shift of the base is the model's choice (log 4); order and index width are D32 and D57 (log 46). -/
def Obligations.VectorStores : Prop :=
  ∀ (j k : BitVec 3) (s : State),
    let a0 := (reg s.a 0).toNat
    let storesV (ins : Instr) (at_ : Nat → AWord) : Prop := writable s s.vl.toNat at_ →
      ∃ t, exec ins s = .next t ∧ stored s t s.vl.toNat at_ (element s j) ∧
        (∀ e < s.vl.toNat, cacheFind t.cache (absoluteOf s (at_ e)) = none) ∧
        (∀ a, (∀ e < s.vl.toNat, a ≠ absoluteOf s (at_ e)) → cacheFind t.cache a = cacheFind s.cache a) ∧
        pAfter s t 1 ∧
        t = { s with pending := t.pending, ibufStored := t.ibufStored, cache := t.cache, p := t.p }
    storesV (.vStore j k) (fun e => BitVec.ofNat 32 (a0 + e * (readAk s k).toNat)) ∧
      storesV (.vStoreOne j) (fun e => BitVec.ofNat 32 (a0 + e)) ∧
      storesV (.vScatter j k) (fun e => BitVec.ofNat 32 (a0 + (element s k e).toNat))

end
end

