-- ==== Sys2Proof/Laws/Arithmetic.lean ====
section
/-! SUPPORT. The shifts and bit counts as arithmetic on numbers. -/

namespace Sys2Proof.Machine

/-- A multiple of a high power of two is 0 modulo a lower one. -/
theorem mul_pow_mod {n c : Nat} (x : Nat) (h : n ≤ c) : x * 2 ^ c % 2 ^ n = 0 := by
  obtain ⟨d, rfl⟩ := Nat.exists_eq_add_of_le h
  rw [Nat.pow_add, Nat.mul_left_comm, Nat.mul_mod_right]

theorem toNat_shiftLeft (w : Word) (c : Nat) : (shiftLeft w c).toNat = w.toNat * 2 ^ c % 2 ^ 64 := by
  unfold shiftLeft
  split_ifs with h
  · rw [mul_pow_mod _ h]
    rfl
  · simp [BitVec.toNat_shiftLeft, Nat.shiftLeft_eq]

theorem toNat_shiftRight (w : Word) (c : Nat) : (shiftRight w c).toNat = w.toNat / 2 ^ c := by
  unfold shiftRight
  split_ifs with h
  · have : 2 ^ 64 ≤ 2 ^ c := Nat.pow_le_pow_right (by decide) h
    rw [Nat.div_eq_of_lt (Nat.lt_of_lt_of_le w.isLt this)]
    rfl
  · simp [BitVec.toNat_ushiftRight, Nat.shiftRight_eq_div_pow]

theorem toNat_append_words (high low : Word) : (high ++ low : BitVec 128).toNat = high.toNat * 2 ^ 64 + low.toNat := by
  rw [BitVec.toNat_append, ← Nat.shiftLeft_add_eq_or_of_lt low.isLt, Nat.shiftLeft_eq]

theorem toNat_doubleLeft (high low : Word) (c : Nat) :
    (doubleLeft high low c).toNat = (high.toNat * 2 ^ 64 + low.toNat) * 2 ^ c % 2 ^ 128 / 2 ^ 64 := by
  rw [← toNat_append_words]
  generalize hx : (high ++ low : BitVec 128) = x
  unfold doubleLeft
  split_ifs with h
  · rw [mul_pow_mod _ h, Nat.zero_div]
    exact BitVec.toNat_zero
  · rw [hx, BitVec.extractLsb'_toNat, BitVec.toNat_shiftLeft, Nat.shiftLeft_eq, Nat.shiftRight_eq_div_pow]
    apply Nat.mod_eq_of_lt
    apply Nat.div_lt_of_lt_mul
    exact Nat.lt_of_lt_of_le (Nat.mod_lt _ (Nat.pow_pos (by decide))) (by norm_num)

theorem toNat_doubleRight (high low : Word) (c : Nat) :
    (doubleRight high low c).toNat = (high.toNat * 2 ^ 64 + low.toNat) / 2 ^ c % 2 ^ 64 := by
  unfold doubleRight
  split_ifs with h
  · have hlt : high.toNat * 2 ^ 64 + low.toNat < 2 ^ c := by
      have h1 := high.isLt
      have h2 := low.isLt
      have : 2 ^ 128 ≤ 2 ^ c := Nat.pow_le_pow_right (by decide) h
      omega
    rw [Nat.div_eq_of_lt hlt]
    rfl
  · rw [BitVec.extractLsb'_toNat, BitVec.toNat_ushiftRight, toNat_append_words, Nat.shiftRight_zero,
      Nat.shiftRight_eq_div_pow]

theorem doubleLeft_zero (w : Word) (c : Nat) : doubleLeft w 0 c = shiftLeft w c := by
  apply BitVec.eq_of_toNat_eq
  rw [toNat_doubleLeft, toNat_shiftLeft]
  have e : (2 : Nat) ^ 128 = 2 ^ 64 * 2 ^ 64 := by decide
  show (w.toNat * 2 ^ 64 + 0) * 2 ^ c % 2 ^ 128 / 2 ^ 64 = _
  rw [e, Nat.mod_mul_right_div_self, Nat.add_zero, Nat.mul_right_comm, Nat.mul_div_cancel _ (by decide)]

theorem doubleRight_zero (w : Word) (c : Nat) : doubleRight 0 w c = shiftRight w c := by
  apply BitVec.eq_of_toNat_eq
  rw [toNat_doubleRight, toNat_shiftRight]
  show (0 * 2 ^ 64 + w.toNat) / 2 ^ c % 2 ^ 64 = _
  rw [Nat.zero_mul, Nat.zero_add]
  exact Nat.mod_eq_of_lt (Nat.lt_of_le_of_lt (Nat.div_le_self _ _) w.isLt)

theorem countP_range (n : Nat) (f : Nat → Bool) :
    (List.range n).countP f = ∑ p ∈ Finset.range n, if f p = true then 1 else 0 := by
  induction n with
  | zero => rfl
  | succ n ih => rw [List.range_succ, List.countP_append, ih, Finset.sum_range_succ, List.countP_singleton]

/-- The population count is the number of bits that are 1. -/
theorem popCount_eq_card (w : Word) :
    popCount w = (Finset.univ.filter fun p : Fin 64 => w.getLsbD p.val = true).card := by
  rw [popCount, countP_range, Finset.card_filter,
    Fin.sum_univ_eq_sum_range (fun p => if w.getLsbD p = true then 1 else 0)]

theorem popCount_le (w : Word) : popCount w ≤ 64 := by
  simpa [popCount] using List.countP_le_length (p := fun n => w.getLsbD n) (l := List.range 64)

/-- Every bit before the end of a run of false is false, and the bit that ends it is true. -/
theorem takeWhile_range_spec (n : Nat) (f : Nat → Bool) :
    let k := ((List.range n).takeWhile fun m => !f m).length
    k ≤ n ∧ (∀ m < k, f m = false) ∧ (k < n → f k = true) := by
  induction n with
  | zero => simp
  | succ n ih =>
    obtain ⟨h1, h2, h3⟩ := ih
    simp only [List.range_succ, List.takeWhile_append, List.length_range]
    split_ifs with h
    · rw [h] at h2
      by_cases hf : f n = true
      · simp [hf]
        exact h2
      · simp only [Bool.not_eq_true] at hf
        simp [hf]
        intro m hm
        rcases Nat.lt_or_eq_of_le hm with h' | rfl
        · exact h2 m h'
        · exact hf
    · have : ((List.range n).takeWhile fun m => !f m).length < n := by omega
      exact ⟨by omega, h2, fun _ => h3 this⟩

end Sys2Proof.Machine
end

