-- ==== Sys2Proof/Laws/Decode.lean ====
section
/-! SUPPORT. The fields of a packed parcel, and a parcel from its fields (30 R122). -/

namespace Sys2Proof

section
variable (g : BitVec 4) (h i j k : BitVec 3) (jk : BitVec 6) (t : BitVec 24)

@[simp] theorem gField_pack : gField (pack g h i j k) = g := by
  apply BitVec.eq_of_getLsbD_eq
  intro p hp
  simp only [gField, pack, BitVec.getLsbD_append, BitVec.getLsbD_extractLsb']
  split_ifs <;> first | omega | (rw [decide_eq_true hp, Bool.true_and]; congr 1; omega)

@[simp] theorem hField_pack : hField (pack g h i j k) = h := by
  apply BitVec.eq_of_getLsbD_eq
  intro p hp
  simp only [hField, pack, BitVec.getLsbD_append, BitVec.getLsbD_extractLsb']
  split_ifs <;> first | omega | (rw [decide_eq_true hp, Bool.true_and]; congr 1; omega)

@[simp] theorem iField_pack : iField (pack g h i j k) = i := by
  apply BitVec.eq_of_getLsbD_eq
  intro p hp
  simp only [iField, pack, BitVec.getLsbD_append, BitVec.getLsbD_extractLsb']
  split_ifs <;> first | omega | (rw [decide_eq_true hp, Bool.true_and]; congr 1; omega)

@[simp] theorem jField_pack : jField (pack g h i j k) = j := by
  apply BitVec.eq_of_getLsbD_eq
  intro p hp
  simp only [jField, pack, BitVec.getLsbD_append, BitVec.getLsbD_extractLsb']
  split_ifs <;> first | omega | (rw [decide_eq_true hp, Bool.true_and]; congr 1; omega)

@[simp] theorem kField_pack : kField (pack g h i j k) = k := by
  apply BitVec.eq_of_getLsbD_eq
  intro p hp
  simp only [kField, pack, BitVec.getLsbD_append, BitVec.getLsbD_extractLsb']
  split_ifs <;> first | omega | (rw [decide_eq_true hp, Bool.true_and]; congr 1; omega)

@[simp] theorem jkField_pack : jkField (pack g h i j k) = j ++ k := by
  apply BitVec.eq_of_getLsbD_eq
  intro p hp
  simp only [jkField, pack, BitVec.getLsbD_append, BitVec.getLsbD_extractLsb']
  split_ifs <;> first | omega | (rw [decide_eq_true hp, Bool.true_and]; congr 1; omega)

@[simp] theorem gField_packJk : gField (packJk g h i jk) = g := by
  apply BitVec.eq_of_getLsbD_eq
  intro p hp
  simp only [gField, packJk, BitVec.getLsbD_append, BitVec.getLsbD_extractLsb']
  split_ifs <;> first | omega | (rw [decide_eq_true hp, Bool.true_and]; congr 1; omega)

@[simp] theorem hField_packJk : hField (packJk g h i jk) = h := by
  apply BitVec.eq_of_getLsbD_eq
  intro p hp
  simp only [hField, packJk, BitVec.getLsbD_append, BitVec.getLsbD_extractLsb']
  split_ifs <;> first | omega | (rw [decide_eq_true hp, Bool.true_and]; congr 1; omega)

@[simp] theorem iField_packJk : iField (packJk g h i jk) = i := by
  apply BitVec.eq_of_getLsbD_eq
  intro p hp
  simp only [iField, packJk, BitVec.getLsbD_append, BitVec.getLsbD_extractLsb']
  split_ifs <;> first | omega | (rw [decide_eq_true hp, Bool.true_and]; congr 1; omega)

@[simp] theorem jkField_packJk : jkField (packJk g h i jk) = jk := by
  apply BitVec.eq_of_getLsbD_eq
  intro p hp
  simp only [jkField, packJk, BitVec.getLsbD_append, BitVec.getLsbD_extractLsb']
  split_ifs <;> first | omega | (rw [decide_eq_true hp, Bool.true_and]; congr 1; omega)

@[simp] theorem gField_branchParcel : gField (branchParcel g h t) = g := by
  apply BitVec.eq_of_getLsbD_eq
  intro p hp
  simp only [gField, branchParcel, BitVec.getLsbD_append, BitVec.getLsbD_extractLsb']
  split_ifs <;> first | omega | (rw [decide_eq_true hp, Bool.true_and]; congr 1; omega)

@[simp] theorem hField_branchParcel : hField (branchParcel g h t) = h := by
  apply BitVec.eq_of_getLsbD_eq
  intro p hp
  simp only [hField, branchParcel, BitVec.getLsbD_append, BitVec.getLsbD_extractLsb']
  split_ifs <;> first | omega | (rw [decide_eq_true hp, Bool.true_and]; congr 1; omega)

@[simp] theorem branchBit_branchParcel : (branchParcel g h t).getLsbD 8 = false := by
  simp only [branchParcel, BitVec.getLsbD_append]
  rfl

@[simp] theorem getElem_branchParcel : (branchParcel g h t)[8] = false := branchBit_branchParcel g h t

@[simp] theorem target_branchParcel : (ijkField (branchParcel g h t) ++ branchLow t : BitVec 24) = t := by
  apply BitVec.eq_of_getLsbD_eq
  intro p hp
  simp only [ijkField, branchLow, branchParcel, BitVec.getLsbD_append, BitVec.getLsbD_extractLsb']
  by_cases h16 : p < 16
  · simp [h16]
  · have h8 : p - 16 < 8 := by omega
    simp only [h16, if_false, Nat.zero_add, h8, if_true, decide_true, Bool.true_and]
    congr 1
    omega

end

@[simp] theorem expOf_expLow_expHigh (e : AWord) : expOf (expLow e) (expHigh e) = e := by
  apply BitVec.eq_of_getLsbD_eq
  intro p hp
  simp only [expOf, expLow, expHigh, BitVec.getLsbD_append, BitVec.getLsbD_extractLsb']
  split_ifs <;> (rw [decide_eq_true (by omega), Bool.true_and]; congr 1; omega)

/-- A first parcel is its fields (30 R122). -/
theorem pack_fields (p : Parcel) : pack (gField p) (hField p) (iField p) (jField p) (kField p) = p := by
  apply BitVec.eq_of_getLsbD_eq
  intro q hq
  simp only [pack, gField, hField, iField, jField, kField, BitVec.getLsbD_append, BitVec.getLsbD_extractLsb']
  split_ifs <;> (rw [decide_eq_true (by omega), Bool.true_and]; congr 1; omega)

/-- A first parcel is its fields, jk as one number (30 R126). -/
theorem packJk_fields (p : Parcel) : packJk (gField p) (hField p) (iField p) (jkField p) = p := by
  apply BitVec.eq_of_getLsbD_eq
  intro q hq
  simp only [packJk, gField, hField, iField, jkField, BitVec.getLsbD_append, BitVec.getLsbD_extractLsb']
  split_ifs <;> (rw [decide_eq_true (by omega), Bool.true_and]; congr 1; omega)

/-! ## The row of a first parcel -/

theorem branchTo_isOk (p m m' : Parcel) (f : BitVec 24 → Instr) :
    (branchTo p m f).isOk = (branchTo p m' f).isOk := by
  unfold branchTo
  split <;> rfl

theorem threeParcel_isOk (p : Parcel) (i i' : Instr) : (threeParcel p i).isOk = (threeParcel p i').isOk := by
  unfold threeParcel
  split <;> rfl

/-- Whether a first parcel is a row does not rest on what follows it (30 R129). -/
theorem decodeParcels_isOk (p m n m' n' : Parcel) : (decodeParcels p m n).isOk = (decodeParcels p m' n').isOk := by
  have h00 : (decode00 p m).isOk = (decode00 p m').isOk := by
    unfold decode00
    generalize (hField p).toNat = x
    match x with
    | 0 => rfl
    | 1 => rfl
    | 2 => rfl
    | 3 => rfl
    | 4 => rfl
    | 5 => rfl
    | 6 => exact branchTo_isOk _ _ _ _
    | 7 => exact branchTo_isOk _ _ _ _
    | _ + 8 => rfl
  have h01 : (decode01 p m).isOk = (decode01 p m').isOk := by
    unfold decode01
    generalize (hField p).toNat = x
    match x with
    | 0 => exact branchTo_isOk _ _ _ _
    | 1 => exact branchTo_isOk _ _ _ _
    | 2 => exact branchTo_isOk _ _ _ _
    | 3 => exact branchTo_isOk _ _ _ _
    | 4 => exact branchTo_isOk _ _ _ _
    | 5 => exact branchTo_isOk _ _ _ _
    | 6 => exact branchTo_isOk _ _ _ _
    | 7 => exact branchTo_isOk _ _ _ _
    | _ + 8 => rfl
  have h02 : (decode02 p m n).isOk = (decode02 p m' n').isOk := by
    unfold decode02
    generalize (hField p).toNat = x
    match x with
    | 0 => exact threeParcel_isOk _ _ _
    | 1 => exact threeParcel_isOk _ _ _
    | 2 => rfl
    | 3 => rfl
    | 4 => rfl
    | 5 => rfl
    | 6 => rfl
    | 7 => rfl
    | _ + 8 => rfl
  have h04 : (decode04 p m n).isOk = (decode04 p m' n').isOk := by
    unfold decode04
    generalize (hField p).toNat = x
    match x with
    | 0 => exact threeParcel_isOk _ _ _
    | 1 => exact threeParcel_isOk _ _ _
    | 2 => rfl
    | 3 => rfl
    | 4 => rfl
    | 5 => rfl
    | 6 => rfl
    | 7 => rfl
    | _ + 8 => rfl
  unfold decodeParcels
  generalize (gField p).toNat = x
  match x with
  | 0 => exact h00
  | 1 => exact h01
  | 2 => exact h02
  | 3 => rfl
  | 4 => exact h04
  | 5 => rfl
  | 6 => rfl
  | 7 => rfl
  | 8 => exact threeParcel_isOk _ _ _
  | 9 => exact threeParcel_isOk _ _ _
  | 10 => exact threeParcel_isOk _ _ _
  | 11 => exact threeParcel_isOk _ _ _
  | 12 => rfl
  | 13 => rfl
  | 14 => rfl
  | _ + 15 => rfl

/-- The first parcel of what decodes is a row. -/
theorem unlistedFirst_of_decode {p : Parcel} {ps : List Parcel} {i : Instr} (h : decode (p :: ps) = .ok i) :
    unlistedFirst p = none := by
  simp only [decode] at h
  split at h
  · cases h
  · have e := decodeParcels_isOk p (ps.getD 0 0) (ps.getD 1 0) 0 0
    rw [h] at e
    unfold unlistedFirst
    split
    · rfl
    · next w hw => rw [hw] at e; cases e

/-- A first parcel that is no row decodes to no instruction, whatever follows it (30 R129). -/
theorem decode_of_unlistedFirst {p : Parcel} {why : Reject} (h : unlistedFirst p = some why) (ps : List Parcel)
    (i : Instr) : decode (p :: ps) ≠ .ok i := by
  intro hd
  rw [unlistedFirst_of_decode hd] at h
  cases h

end Sys2Proof
end

