-- ==== Sys2Proof/Laws/State.lean ====
section
/-! SUPPORT. What each named update of the state leaves in each field it does not write. -/

namespace Sys2Proof.Machine

@[simp] theorem advance_a (n : Nat) (s : State) : (advance n s).a = s.a := rfl
@[simp] theorem advance_s (n : Nat) (s : State) : (advance n s).s = s.s := rfl
@[simp] theorem advance_b (n : Nat) (s : State) : (advance n s).b = s.b := rfl
@[simp] theorem advance_t (n : Nat) (s : State) : (advance n s).t = s.t := rfl
@[simp] theorem advance_v (n : Nat) (s : State) : (advance n s).v = s.v := rfl
@[simp] theorem advance_vl (n : Nat) (s : State) : (advance n s).vl = s.vl := rfl
@[simp] theorem advance_vm (n : Nat) (s : State) : (advance n s).vm = s.vm := rfl
@[simp] theorem advance_iba (n : Nat) (s : State) : (advance n s).iba = s.iba := rfl
@[simp] theorem advance_ila (n : Nat) (s : State) : (advance n s).ila = s.ila := rfl
@[simp] theorem advance_dba (n : Nat) (s : State) : (advance n s).dba = s.dba := rfl
@[simp] theorem advance_dla (n : Nat) (s : State) : (advance n s).dla = s.dla := rfl
@[simp] theorem advance_xa (n : Nat) (s : State) : (advance n s).xa = s.xa := rfl
@[simp] theorem advance_flags (n : Nat) (s : State) : (advance n s).flags = s.flags := rfl
@[simp] theorem advance_modes (n : Nat) (s : State) : (advance n s).modes = s.modes := rfl
@[simp] theorem advance_ce (n : Nat) (s : State) : (advance n s).ce = s.ce := rfl
@[simp] theorem advance_cln (n : Nat) (s : State) : (advance n s).cln = s.cln := rfl
@[simp] theorem advance_pn (n : Nat) (s : State) : (advance n s).pn = s.pn := rfl
@[simp] theorem advance_vnu (n : Nat) (s : State) : (advance n s).vnu = s.vnu := rfl
@[simp] theorem advance_ws (n : Nat) (s : State) : (advance n s).ws = s.ws := rfl
@[simp] theorem advance_held (n : Nat) (s : State) : (advance n s).held = s.held := rfl
@[simp] theorem advance_report (n : Nat) (s : State) : (advance n s).report = s.report := rfl
@[simp] theorem advance_ii (n : Nat) (s : State) : (advance n s).ii = s.ii := rfl
@[simp] theorem advance_pciEnable (n : Nat) (s : State) : (advance n s).pciEnable = s.pciEnable := rfl
@[simp] theorem advance_pciRequest (n : Nat) (s : State) : (advance n s).pciRequest = s.pciRequest := rfl
@[simp] theorem advance_ipiPending (n : Nat) (s : State) : (advance n s).ipiPending = s.ipiPending := rfl
@[simp] theorem advance_ivcPending (n : Nat) (s : State) : (advance n s).ivcPending = s.ivcPending := rfl
@[simp] theorem advance_perf (n : Nat) (s : State) : (advance n s).perf = s.perf := rfl
@[simp] theorem advance_maint (n : Nat) (s : State) : (advance n s).maint = s.maint := rfl
@[simp] theorem advance_cache (n : Nat) (s : State) : (advance n s).cache = s.cache := rfl
@[simp] theorem advance_ibufStored (n : Nat) (s : State) : (advance n s).ibufStored = s.ibufStored := rfl
@[simp] theorem advance_pending (n : Nat) (s : State) : (advance n s).pending = s.pending := rfl
@[simp] theorem advance_sharedQueue (n : Nat) (s : State) : (advance n s).sharedQueue = s.sharedQueue := rfl
@[simp] theorem advance_mem (n : Nat) (s : State) : (advance n s).mem = s.mem := rfl
@[simp] theorem advance_clusters (n : Nat) (s : State) : (advance n s).clusters = s.clusters := rfl
@[simp] theorem advance_rtc (n : Nat) (s : State) : (advance n s).rtc = s.rtc := rfl
@[simp] theorem advance_chans (n : Nat) (s : State) : (advance n s).chans = s.chans := rfl
@[simp] theorem advance_peers (n : Nat) (s : State) : (advance n s).peers = s.peers := rfl
@[simp] theorem advance_running (n : Nat) (s : State) : (advance n s).running = s.running := rfl
@[simp] theorem advance_sys (n : Nat) (s : State) : (advance n s).sys = s.sys := rfl
@[simp] theorem advance_inputs (n : Nat) (s : State) : (advance n s).inputs = s.inputs := rfl
@[simp] theorem advance_seq (n : Nat) (s : State) : (advance n s).seq = s.seq := rfl

@[simp] theorem performSection_a (k : Nat) (s : State) : (performSection k s).a = s.a := rfl
@[simp] theorem performSection_s (k : Nat) (s : State) : (performSection k s).s = s.s := rfl
@[simp] theorem performSection_b (k : Nat) (s : State) : (performSection k s).b = s.b := rfl
@[simp] theorem performSection_t (k : Nat) (s : State) : (performSection k s).t = s.t := rfl
@[simp] theorem performSection_v (k : Nat) (s : State) : (performSection k s).v = s.v := rfl
@[simp] theorem performSection_vl (k : Nat) (s : State) : (performSection k s).vl = s.vl := rfl
@[simp] theorem performSection_vm (k : Nat) (s : State) : (performSection k s).vm = s.vm := rfl
@[simp] theorem performSection_p (k : Nat) (s : State) : (performSection k s).p = s.p := rfl
@[simp] theorem performSection_iba (k : Nat) (s : State) : (performSection k s).iba = s.iba := rfl
@[simp] theorem performSection_ila (k : Nat) (s : State) : (performSection k s).ila = s.ila := rfl
@[simp] theorem performSection_dba (k : Nat) (s : State) : (performSection k s).dba = s.dba := rfl
@[simp] theorem performSection_dla (k : Nat) (s : State) : (performSection k s).dla = s.dla := rfl
@[simp] theorem performSection_xa (k : Nat) (s : State) : (performSection k s).xa = s.xa := rfl
@[simp] theorem performSection_flags (k : Nat) (s : State) : (performSection k s).flags = s.flags := rfl
@[simp] theorem performSection_modes (k : Nat) (s : State) : (performSection k s).modes = s.modes := rfl
@[simp] theorem performSection_ce (k : Nat) (s : State) : (performSection k s).ce = s.ce := rfl
@[simp] theorem performSection_cln (k : Nat) (s : State) : (performSection k s).cln = s.cln := rfl
@[simp] theorem performSection_pn (k : Nat) (s : State) : (performSection k s).pn = s.pn := rfl
@[simp] theorem performSection_vnu (k : Nat) (s : State) : (performSection k s).vnu = s.vnu := rfl
@[simp] theorem performSection_ws (k : Nat) (s : State) : (performSection k s).ws = s.ws := rfl
@[simp] theorem performSection_held (k : Nat) (s : State) : (performSection k s).held = s.held := rfl
@[simp] theorem performSection_report (k : Nat) (s : State) : (performSection k s).report = s.report := rfl
@[simp] theorem performSection_ii (k : Nat) (s : State) : (performSection k s).ii = s.ii := rfl
@[simp] theorem performSection_pciEnable (k : Nat) (s : State) : (performSection k s).pciEnable = s.pciEnable := rfl
@[simp] theorem performSection_pciRequest (k : Nat) (s : State) : (performSection k s).pciRequest = s.pciRequest := rfl
@[simp] theorem performSection_ipiPending (k : Nat) (s : State) : (performSection k s).ipiPending = s.ipiPending := rfl
@[simp] theorem performSection_ivcPending (k : Nat) (s : State) : (performSection k s).ivcPending = s.ivcPending := rfl
@[simp] theorem performSection_perf (k : Nat) (s : State) : (performSection k s).perf = s.perf := rfl
@[simp] theorem performSection_maint (k : Nat) (s : State) : (performSection k s).maint = s.maint := rfl
@[simp] theorem performSection_cache (k : Nat) (s : State) : (performSection k s).cache = s.cache := rfl
@[simp] theorem performSection_ibufStored (k : Nat) (s : State) : (performSection k s).ibufStored = s.ibufStored := rfl
@[simp] theorem performSection_sharedQueue (k : Nat) (s : State) : (performSection k s).sharedQueue = s.sharedQueue := rfl
@[simp] theorem performSection_clusters (k : Nat) (s : State) : (performSection k s).clusters = s.clusters := rfl
@[simp] theorem performSection_rtc (k : Nat) (s : State) : (performSection k s).rtc = s.rtc := rfl
@[simp] theorem performSection_chans (k : Nat) (s : State) : (performSection k s).chans = s.chans := rfl
@[simp] theorem performSection_peers (k : Nat) (s : State) : (performSection k s).peers = s.peers := rfl
@[simp] theorem performSection_running (k : Nat) (s : State) : (performSection k s).running = s.running := rfl
@[simp] theorem performSection_sys (k : Nat) (s : State) : (performSection k s).sys = s.sys := rfl
@[simp] theorem performSection_inputs (k : Nat) (s : State) : (performSection k s).inputs = s.inputs := rfl
@[simp] theorem performSection_seq (k : Nat) (s : State) : (performSection k s).seq = s.seq := rfl

@[simp] theorem performAll_a (s : State) : (performAll s).a = s.a := rfl
@[simp] theorem performAll_s (s : State) : (performAll s).s = s.s := rfl
@[simp] theorem performAll_b (s : State) : (performAll s).b = s.b := rfl
@[simp] theorem performAll_t (s : State) : (performAll s).t = s.t := rfl
@[simp] theorem performAll_v (s : State) : (performAll s).v = s.v := rfl
@[simp] theorem performAll_vl (s : State) : (performAll s).vl = s.vl := rfl
@[simp] theorem performAll_vm (s : State) : (performAll s).vm = s.vm := rfl
@[simp] theorem performAll_p (s : State) : (performAll s).p = s.p := rfl
@[simp] theorem performAll_iba (s : State) : (performAll s).iba = s.iba := rfl
@[simp] theorem performAll_ila (s : State) : (performAll s).ila = s.ila := rfl
@[simp] theorem performAll_dba (s : State) : (performAll s).dba = s.dba := rfl
@[simp] theorem performAll_dla (s : State) : (performAll s).dla = s.dla := rfl
@[simp] theorem performAll_xa (s : State) : (performAll s).xa = s.xa := rfl
@[simp] theorem performAll_flags (s : State) : (performAll s).flags = s.flags := rfl
@[simp] theorem performAll_modes (s : State) : (performAll s).modes = s.modes := rfl
@[simp] theorem performAll_ce (s : State) : (performAll s).ce = s.ce := rfl
@[simp] theorem performAll_cln (s : State) : (performAll s).cln = s.cln := rfl
@[simp] theorem performAll_pn (s : State) : (performAll s).pn = s.pn := rfl
@[simp] theorem performAll_vnu (s : State) : (performAll s).vnu = s.vnu := rfl
@[simp] theorem performAll_ws (s : State) : (performAll s).ws = s.ws := rfl
@[simp] theorem performAll_held (s : State) : (performAll s).held = s.held := rfl
@[simp] theorem performAll_report (s : State) : (performAll s).report = s.report := rfl
@[simp] theorem performAll_ii (s : State) : (performAll s).ii = s.ii := rfl
@[simp] theorem performAll_pciEnable (s : State) : (performAll s).pciEnable = s.pciEnable := rfl
@[simp] theorem performAll_pciRequest (s : State) : (performAll s).pciRequest = s.pciRequest := rfl
@[simp] theorem performAll_ipiPending (s : State) : (performAll s).ipiPending = s.ipiPending := rfl
@[simp] theorem performAll_ivcPending (s : State) : (performAll s).ivcPending = s.ivcPending := rfl
@[simp] theorem performAll_perf (s : State) : (performAll s).perf = s.perf := rfl
@[simp] theorem performAll_maint (s : State) : (performAll s).maint = s.maint := rfl
@[simp] theorem performAll_cache (s : State) : (performAll s).cache = s.cache := rfl
@[simp] theorem performAll_ibufStored (s : State) : (performAll s).ibufStored = s.ibufStored := rfl
@[simp] theorem performAll_sharedQueue (s : State) : (performAll s).sharedQueue = s.sharedQueue := rfl
@[simp] theorem performAll_clusters (s : State) : (performAll s).clusters = s.clusters := rfl
@[simp] theorem performAll_rtc (s : State) : (performAll s).rtc = s.rtc := rfl
@[simp] theorem performAll_chans (s : State) : (performAll s).chans = s.chans := rfl
@[simp] theorem performAll_peers (s : State) : (performAll s).peers = s.peers := rfl
@[simp] theorem performAll_running (s : State) : (performAll s).running = s.running := rfl
@[simp] theorem performAll_sys (s : State) : (performAll s).sys = s.sys := rfl
@[simp] theorem performAll_inputs (s : State) : (performAll s).inputs = s.inputs := rfl
@[simp] theorem performAll_seq (s : State) : (performAll s).seq = s.seq := rfl

@[simp] theorem deliverAll_a (s : State) : (deliverAll s).a = s.a := rfl
@[simp] theorem deliverAll_s (s : State) : (deliverAll s).s = s.s := rfl
@[simp] theorem deliverAll_b (s : State) : (deliverAll s).b = s.b := rfl
@[simp] theorem deliverAll_t (s : State) : (deliverAll s).t = s.t := rfl
@[simp] theorem deliverAll_v (s : State) : (deliverAll s).v = s.v := rfl
@[simp] theorem deliverAll_vl (s : State) : (deliverAll s).vl = s.vl := rfl
@[simp] theorem deliverAll_vm (s : State) : (deliverAll s).vm = s.vm := rfl
@[simp] theorem deliverAll_p (s : State) : (deliverAll s).p = s.p := rfl
@[simp] theorem deliverAll_iba (s : State) : (deliverAll s).iba = s.iba := rfl
@[simp] theorem deliverAll_ila (s : State) : (deliverAll s).ila = s.ila := rfl
@[simp] theorem deliverAll_dba (s : State) : (deliverAll s).dba = s.dba := rfl
@[simp] theorem deliverAll_dla (s : State) : (deliverAll s).dla = s.dla := rfl
@[simp] theorem deliverAll_xa (s : State) : (deliverAll s).xa = s.xa := rfl
@[simp] theorem deliverAll_flags (s : State) : (deliverAll s).flags = s.flags := rfl
@[simp] theorem deliverAll_modes (s : State) : (deliverAll s).modes = s.modes := rfl
@[simp] theorem deliverAll_ce (s : State) : (deliverAll s).ce = s.ce := rfl
@[simp] theorem deliverAll_cln (s : State) : (deliverAll s).cln = s.cln := rfl
@[simp] theorem deliverAll_pn (s : State) : (deliverAll s).pn = s.pn := rfl
@[simp] theorem deliverAll_vnu (s : State) : (deliverAll s).vnu = s.vnu := rfl
@[simp] theorem deliverAll_ws (s : State) : (deliverAll s).ws = s.ws := rfl
@[simp] theorem deliverAll_held (s : State) : (deliverAll s).held = s.held := rfl
@[simp] theorem deliverAll_report (s : State) : (deliverAll s).report = s.report := rfl
@[simp] theorem deliverAll_ii (s : State) : (deliverAll s).ii = s.ii := rfl
@[simp] theorem deliverAll_pciEnable (s : State) : (deliverAll s).pciEnable = s.pciEnable := rfl
@[simp] theorem deliverAll_pciRequest (s : State) : (deliverAll s).pciRequest = s.pciRequest := rfl
@[simp] theorem deliverAll_ipiPending (s : State) : (deliverAll s).ipiPending = s.ipiPending := rfl
@[simp] theorem deliverAll_ivcPending (s : State) : (deliverAll s).ivcPending = s.ivcPending := rfl
@[simp] theorem deliverAll_perf (s : State) : (deliverAll s).perf = s.perf := rfl
@[simp] theorem deliverAll_maint (s : State) : (deliverAll s).maint = s.maint := rfl
@[simp] theorem deliverAll_cache (s : State) : (deliverAll s).cache = s.cache := rfl
@[simp] theorem deliverAll_ibufStored (s : State) : (deliverAll s).ibufStored = s.ibufStored := rfl
@[simp] theorem deliverAll_pending (s : State) : (deliverAll s).pending = s.pending := rfl
@[simp] theorem deliverAll_mem (s : State) : (deliverAll s).mem = s.mem := rfl
@[simp] theorem deliverAll_rtc (s : State) : (deliverAll s).rtc = s.rtc := rfl
@[simp] theorem deliverAll_chans (s : State) : (deliverAll s).chans = s.chans := rfl
@[simp] theorem deliverAll_peers (s : State) : (deliverAll s).peers = s.peers := rfl
@[simp] theorem deliverAll_running (s : State) : (deliverAll s).running = s.running := rfl
@[simp] theorem deliverAll_sys (s : State) : (deliverAll s).sys = s.sys := rfl
@[simp] theorem deliverAll_inputs (s : State) : (deliverAll s).inputs = s.inputs := rfl
@[simp] theorem deliverAll_seq (s : State) : (deliverAll s).seq = s.seq := rfl

@[simp] theorem drawReport_a (s : State) : (drawReport s).a = s.a := rfl
@[simp] theorem drawReport_s (s : State) : (drawReport s).s = s.s := rfl
@[simp] theorem drawReport_b (s : State) : (drawReport s).b = s.b := rfl
@[simp] theorem drawReport_t (s : State) : (drawReport s).t = s.t := rfl
@[simp] theorem drawReport_v (s : State) : (drawReport s).v = s.v := rfl
@[simp] theorem drawReport_vl (s : State) : (drawReport s).vl = s.vl := rfl
@[simp] theorem drawReport_vm (s : State) : (drawReport s).vm = s.vm := rfl
@[simp] theorem drawReport_p (s : State) : (drawReport s).p = s.p := rfl
@[simp] theorem drawReport_iba (s : State) : (drawReport s).iba = s.iba := rfl
@[simp] theorem drawReport_ila (s : State) : (drawReport s).ila = s.ila := rfl
@[simp] theorem drawReport_dba (s : State) : (drawReport s).dba = s.dba := rfl
@[simp] theorem drawReport_dla (s : State) : (drawReport s).dla = s.dla := rfl
@[simp] theorem drawReport_xa (s : State) : (drawReport s).xa = s.xa := rfl
@[simp] theorem drawReport_flags (s : State) : (drawReport s).flags = s.flags := rfl
@[simp] theorem drawReport_modes (s : State) : (drawReport s).modes = s.modes := rfl
@[simp] theorem drawReport_ce (s : State) : (drawReport s).ce = s.ce := rfl
@[simp] theorem drawReport_cln (s : State) : (drawReport s).cln = s.cln := rfl
@[simp] theorem drawReport_pn (s : State) : (drawReport s).pn = s.pn := rfl
@[simp] theorem drawReport_ws (s : State) : (drawReport s).ws = s.ws := rfl
@[simp] theorem drawReport_held (s : State) : (drawReport s).held = s.held := rfl
@[simp] theorem drawReport_ii (s : State) : (drawReport s).ii = s.ii := rfl
@[simp] theorem drawReport_pciEnable (s : State) : (drawReport s).pciEnable = s.pciEnable := rfl
@[simp] theorem drawReport_pciRequest (s : State) : (drawReport s).pciRequest = s.pciRequest := rfl
@[simp] theorem drawReport_ipiPending (s : State) : (drawReport s).ipiPending = s.ipiPending := rfl
@[simp] theorem drawReport_ivcPending (s : State) : (drawReport s).ivcPending = s.ivcPending := rfl
@[simp] theorem drawReport_perf (s : State) : (drawReport s).perf = s.perf := rfl
@[simp] theorem drawReport_maint (s : State) : (drawReport s).maint = s.maint := rfl
@[simp] theorem drawReport_cache (s : State) : (drawReport s).cache = s.cache := rfl
@[simp] theorem drawReport_ibufStored (s : State) : (drawReport s).ibufStored = s.ibufStored := rfl
@[simp] theorem drawReport_pending (s : State) : (drawReport s).pending = s.pending := rfl
@[simp] theorem drawReport_sharedQueue (s : State) : (drawReport s).sharedQueue = s.sharedQueue := rfl
@[simp] theorem drawReport_mem (s : State) : (drawReport s).mem = s.mem := rfl
@[simp] theorem drawReport_clusters (s : State) : (drawReport s).clusters = s.clusters := rfl
@[simp] theorem drawReport_rtc (s : State) : (drawReport s).rtc = s.rtc := rfl
@[simp] theorem drawReport_chans (s : State) : (drawReport s).chans = s.chans := rfl
@[simp] theorem drawReport_peers (s : State) : (drawReport s).peers = s.peers := rfl
@[simp] theorem drawReport_running (s : State) : (drawReport s).running = s.running := rfl
@[simp] theorem drawReport_sys (s : State) : (drawReport s).sys = s.sys := rfl
@[simp] theorem drawReport_inputs (s : State) : (drawReport s).inputs = s.inputs := rfl

@[simp] theorem afterExchange_a (s : State) : (afterExchange s).a = s.a := rfl
@[simp] theorem afterExchange_s (s : State) : (afterExchange s).s = s.s := rfl
@[simp] theorem afterExchange_b (s : State) : (afterExchange s).b = s.b := rfl
@[simp] theorem afterExchange_t (s : State) : (afterExchange s).t = s.t := rfl
@[simp] theorem afterExchange_v (s : State) : (afterExchange s).v = s.v := rfl
@[simp] theorem afterExchange_vl (s : State) : (afterExchange s).vl = s.vl := rfl
@[simp] theorem afterExchange_vm (s : State) : (afterExchange s).vm = s.vm := rfl
@[simp] theorem afterExchange_p (s : State) : (afterExchange s).p = s.p := rfl
@[simp] theorem afterExchange_iba (s : State) : (afterExchange s).iba = s.iba := rfl
@[simp] theorem afterExchange_ila (s : State) : (afterExchange s).ila = s.ila := rfl
@[simp] theorem afterExchange_dba (s : State) : (afterExchange s).dba = s.dba := rfl
@[simp] theorem afterExchange_dla (s : State) : (afterExchange s).dla = s.dla := rfl
@[simp] theorem afterExchange_xa (s : State) : (afterExchange s).xa = s.xa := rfl
@[simp] theorem afterExchange_flags (s : State) : (afterExchange s).flags = s.flags := rfl
@[simp] theorem afterExchange_modes (s : State) : (afterExchange s).modes = s.modes := rfl
@[simp] theorem afterExchange_ce (s : State) : (afterExchange s).ce = s.ce := rfl
@[simp] theorem afterExchange_cln (s : State) : (afterExchange s).cln = s.cln := rfl
@[simp] theorem afterExchange_pn (s : State) : (afterExchange s).pn = s.pn := rfl
@[simp] theorem afterExchange_vnu (s : State) : (afterExchange s).vnu = s.vnu := rfl
@[simp] theorem afterExchange_report (s : State) : (afterExchange s).report = s.report := rfl
@[simp] theorem afterExchange_ii (s : State) : (afterExchange s).ii = s.ii := rfl
@[simp] theorem afterExchange_pciEnable (s : State) : (afterExchange s).pciEnable = s.pciEnable := rfl
@[simp] theorem afterExchange_pciRequest (s : State) : (afterExchange s).pciRequest = s.pciRequest := rfl
@[simp] theorem afterExchange_ipiPending (s : State) : (afterExchange s).ipiPending = s.ipiPending := rfl
@[simp] theorem afterExchange_perf (s : State) : (afterExchange s).perf = s.perf := rfl
@[simp] theorem afterExchange_maint (s : State) : (afterExchange s).maint = s.maint := rfl
@[simp] theorem afterExchange_pending (s : State) : (afterExchange s).pending = s.pending := rfl
@[simp] theorem afterExchange_sharedQueue (s : State) : (afterExchange s).sharedQueue = s.sharedQueue := rfl
@[simp] theorem afterExchange_mem (s : State) : (afterExchange s).mem = s.mem := rfl
@[simp] theorem afterExchange_clusters (s : State) : (afterExchange s).clusters = s.clusters := rfl
@[simp] theorem afterExchange_rtc (s : State) : (afterExchange s).rtc = s.rtc := rfl
@[simp] theorem afterExchange_chans (s : State) : (afterExchange s).chans = s.chans := rfl
@[simp] theorem afterExchange_peers (s : State) : (afterExchange s).peers = s.peers := rfl
@[simp] theorem afterExchange_running (s : State) : (afterExchange s).running = s.running := rfl
@[simp] theorem afterExchange_sys (s : State) : (afterExchange s).sys = s.sys := rfl
@[simp] theorem afterExchange_inputs (s : State) : (afterExchange s).inputs = s.inputs := rfl
@[simp] theorem afterExchange_seq (s : State) : (afterExchange s).seq = s.seq := rfl

@[simp] theorem writeA_s (i : BitVec 3) (w : Word) (s : State) : (writeA i w s).s = s.s := rfl
@[simp] theorem writeA_b (i : BitVec 3) (w : Word) (s : State) : (writeA i w s).b = s.b := rfl
@[simp] theorem writeA_t (i : BitVec 3) (w : Word) (s : State) : (writeA i w s).t = s.t := rfl
@[simp] theorem writeA_v (i : BitVec 3) (w : Word) (s : State) : (writeA i w s).v = s.v := rfl
@[simp] theorem writeA_vl (i : BitVec 3) (w : Word) (s : State) : (writeA i w s).vl = s.vl := rfl
@[simp] theorem writeA_vm (i : BitVec 3) (w : Word) (s : State) : (writeA i w s).vm = s.vm := rfl
@[simp] theorem writeA_p (i : BitVec 3) (w : Word) (s : State) : (writeA i w s).p = s.p := rfl
@[simp] theorem writeA_iba (i : BitVec 3) (w : Word) (s : State) : (writeA i w s).iba = s.iba := rfl
@[simp] theorem writeA_ila (i : BitVec 3) (w : Word) (s : State) : (writeA i w s).ila = s.ila := rfl
@[simp] theorem writeA_dba (i : BitVec 3) (w : Word) (s : State) : (writeA i w s).dba = s.dba := rfl
@[simp] theorem writeA_dla (i : BitVec 3) (w : Word) (s : State) : (writeA i w s).dla = s.dla := rfl
@[simp] theorem writeA_xa (i : BitVec 3) (w : Word) (s : State) : (writeA i w s).xa = s.xa := rfl
@[simp] theorem writeA_flags (i : BitVec 3) (w : Word) (s : State) : (writeA i w s).flags = s.flags := rfl
@[simp] theorem writeA_modes (i : BitVec 3) (w : Word) (s : State) : (writeA i w s).modes = s.modes := rfl
@[simp] theorem writeA_ce (i : BitVec 3) (w : Word) (s : State) : (writeA i w s).ce = s.ce := rfl
@[simp] theorem writeA_cln (i : BitVec 3) (w : Word) (s : State) : (writeA i w s).cln = s.cln := rfl
@[simp] theorem writeA_pn (i : BitVec 3) (w : Word) (s : State) : (writeA i w s).pn = s.pn := rfl
@[simp] theorem writeA_vnu (i : BitVec 3) (w : Word) (s : State) : (writeA i w s).vnu = s.vnu := rfl
@[simp] theorem writeA_ws (i : BitVec 3) (w : Word) (s : State) : (writeA i w s).ws = s.ws := rfl
@[simp] theorem writeA_held (i : BitVec 3) (w : Word) (s : State) : (writeA i w s).held = s.held := rfl
@[simp] theorem writeA_report (i : BitVec 3) (w : Word) (s : State) : (writeA i w s).report = s.report := rfl
@[simp] theorem writeA_ii (i : BitVec 3) (w : Word) (s : State) : (writeA i w s).ii = s.ii := rfl
@[simp] theorem writeA_pciEnable (i : BitVec 3) (w : Word) (s : State) : (writeA i w s).pciEnable = s.pciEnable := rfl
@[simp] theorem writeA_pciRequest (i : BitVec 3) (w : Word) (s : State) : (writeA i w s).pciRequest = s.pciRequest := rfl
@[simp] theorem writeA_ipiPending (i : BitVec 3) (w : Word) (s : State) : (writeA i w s).ipiPending = s.ipiPending := rfl
@[simp] theorem writeA_ivcPending (i : BitVec 3) (w : Word) (s : State) : (writeA i w s).ivcPending = s.ivcPending := rfl
@[simp] theorem writeA_perf (i : BitVec 3) (w : Word) (s : State) : (writeA i w s).perf = s.perf := rfl
@[simp] theorem writeA_maint (i : BitVec 3) (w : Word) (s : State) : (writeA i w s).maint = s.maint := rfl
@[simp] theorem writeA_cache (i : BitVec 3) (w : Word) (s : State) : (writeA i w s).cache = s.cache := rfl
@[simp] theorem writeA_ibufStored (i : BitVec 3) (w : Word) (s : State) : (writeA i w s).ibufStored = s.ibufStored := rfl
@[simp] theorem writeA_pending (i : BitVec 3) (w : Word) (s : State) : (writeA i w s).pending = s.pending := rfl
@[simp] theorem writeA_sharedQueue (i : BitVec 3) (w : Word) (s : State) : (writeA i w s).sharedQueue = s.sharedQueue := rfl
@[simp] theorem writeA_mem (i : BitVec 3) (w : Word) (s : State) : (writeA i w s).mem = s.mem := rfl
@[simp] theorem writeA_clusters (i : BitVec 3) (w : Word) (s : State) : (writeA i w s).clusters = s.clusters := rfl
@[simp] theorem writeA_rtc (i : BitVec 3) (w : Word) (s : State) : (writeA i w s).rtc = s.rtc := rfl
@[simp] theorem writeA_chans (i : BitVec 3) (w : Word) (s : State) : (writeA i w s).chans = s.chans := rfl
@[simp] theorem writeA_peers (i : BitVec 3) (w : Word) (s : State) : (writeA i w s).peers = s.peers := rfl
@[simp] theorem writeA_running (i : BitVec 3) (w : Word) (s : State) : (writeA i w s).running = s.running := rfl
@[simp] theorem writeA_sys (i : BitVec 3) (w : Word) (s : State) : (writeA i w s).sys = s.sys := rfl
@[simp] theorem writeA_inputs (i : BitVec 3) (w : Word) (s : State) : (writeA i w s).inputs = s.inputs := rfl
@[simp] theorem writeA_seq (i : BitVec 3) (w : Word) (s : State) : (writeA i w s).seq = s.seq := rfl

@[simp] theorem writeS_a (i : BitVec 3) (w : Word) (s : State) : (writeS i w s).a = s.a := rfl
@[simp] theorem writeS_b (i : BitVec 3) (w : Word) (s : State) : (writeS i w s).b = s.b := rfl
@[simp] theorem writeS_t (i : BitVec 3) (w : Word) (s : State) : (writeS i w s).t = s.t := rfl
@[simp] theorem writeS_v (i : BitVec 3) (w : Word) (s : State) : (writeS i w s).v = s.v := rfl
@[simp] theorem writeS_vl (i : BitVec 3) (w : Word) (s : State) : (writeS i w s).vl = s.vl := rfl
@[simp] theorem writeS_vm (i : BitVec 3) (w : Word) (s : State) : (writeS i w s).vm = s.vm := rfl
@[simp] theorem writeS_p (i : BitVec 3) (w : Word) (s : State) : (writeS i w s).p = s.p := rfl
@[simp] theorem writeS_iba (i : BitVec 3) (w : Word) (s : State) : (writeS i w s).iba = s.iba := rfl
@[simp] theorem writeS_ila (i : BitVec 3) (w : Word) (s : State) : (writeS i w s).ila = s.ila := rfl
@[simp] theorem writeS_dba (i : BitVec 3) (w : Word) (s : State) : (writeS i w s).dba = s.dba := rfl
@[simp] theorem writeS_dla (i : BitVec 3) (w : Word) (s : State) : (writeS i w s).dla = s.dla := rfl
@[simp] theorem writeS_xa (i : BitVec 3) (w : Word) (s : State) : (writeS i w s).xa = s.xa := rfl
@[simp] theorem writeS_flags (i : BitVec 3) (w : Word) (s : State) : (writeS i w s).flags = s.flags := rfl
@[simp] theorem writeS_modes (i : BitVec 3) (w : Word) (s : State) : (writeS i w s).modes = s.modes := rfl
@[simp] theorem writeS_ce (i : BitVec 3) (w : Word) (s : State) : (writeS i w s).ce = s.ce := rfl
@[simp] theorem writeS_cln (i : BitVec 3) (w : Word) (s : State) : (writeS i w s).cln = s.cln := rfl
@[simp] theorem writeS_pn (i : BitVec 3) (w : Word) (s : State) : (writeS i w s).pn = s.pn := rfl
@[simp] theorem writeS_vnu (i : BitVec 3) (w : Word) (s : State) : (writeS i w s).vnu = s.vnu := rfl
@[simp] theorem writeS_ws (i : BitVec 3) (w : Word) (s : State) : (writeS i w s).ws = s.ws := rfl
@[simp] theorem writeS_held (i : BitVec 3) (w : Word) (s : State) : (writeS i w s).held = s.held := rfl
@[simp] theorem writeS_report (i : BitVec 3) (w : Word) (s : State) : (writeS i w s).report = s.report := rfl
@[simp] theorem writeS_ii (i : BitVec 3) (w : Word) (s : State) : (writeS i w s).ii = s.ii := rfl
@[simp] theorem writeS_pciEnable (i : BitVec 3) (w : Word) (s : State) : (writeS i w s).pciEnable = s.pciEnable := rfl
@[simp] theorem writeS_pciRequest (i : BitVec 3) (w : Word) (s : State) : (writeS i w s).pciRequest = s.pciRequest := rfl
@[simp] theorem writeS_ipiPending (i : BitVec 3) (w : Word) (s : State) : (writeS i w s).ipiPending = s.ipiPending := rfl
@[simp] theorem writeS_ivcPending (i : BitVec 3) (w : Word) (s : State) : (writeS i w s).ivcPending = s.ivcPending := rfl
@[simp] theorem writeS_perf (i : BitVec 3) (w : Word) (s : State) : (writeS i w s).perf = s.perf := rfl
@[simp] theorem writeS_maint (i : BitVec 3) (w : Word) (s : State) : (writeS i w s).maint = s.maint := rfl
@[simp] theorem writeS_cache (i : BitVec 3) (w : Word) (s : State) : (writeS i w s).cache = s.cache := rfl
@[simp] theorem writeS_ibufStored (i : BitVec 3) (w : Word) (s : State) : (writeS i w s).ibufStored = s.ibufStored := rfl
@[simp] theorem writeS_pending (i : BitVec 3) (w : Word) (s : State) : (writeS i w s).pending = s.pending := rfl
@[simp] theorem writeS_sharedQueue (i : BitVec 3) (w : Word) (s : State) : (writeS i w s).sharedQueue = s.sharedQueue := rfl
@[simp] theorem writeS_mem (i : BitVec 3) (w : Word) (s : State) : (writeS i w s).mem = s.mem := rfl
@[simp] theorem writeS_clusters (i : BitVec 3) (w : Word) (s : State) : (writeS i w s).clusters = s.clusters := rfl
@[simp] theorem writeS_rtc (i : BitVec 3) (w : Word) (s : State) : (writeS i w s).rtc = s.rtc := rfl
@[simp] theorem writeS_chans (i : BitVec 3) (w : Word) (s : State) : (writeS i w s).chans = s.chans := rfl
@[simp] theorem writeS_peers (i : BitVec 3) (w : Word) (s : State) : (writeS i w s).peers = s.peers := rfl
@[simp] theorem writeS_running (i : BitVec 3) (w : Word) (s : State) : (writeS i w s).running = s.running := rfl
@[simp] theorem writeS_sys (i : BitVec 3) (w : Word) (s : State) : (writeS i w s).sys = s.sys := rfl
@[simp] theorem writeS_inputs (i : BitVec 3) (w : Word) (s : State) : (writeS i w s).inputs = s.inputs := rfl
@[simp] theorem writeS_seq (i : BitVec 3) (w : Word) (s : State) : (writeS i w s).seq = s.seq := rfl

@[simp] theorem advance_p (n : Nat) (s : State) : (advance n s).p = s.p + BitVec.ofNat 24 n := rfl
@[simp] theorem performAll_pending (s : State) : (performAll s).pending = [] := rfl
@[simp] theorem performAll_mem (s : State) : (performAll s).mem = performList s.mem s.pending := rfl
@[simp] theorem deliverAll_sharedQueue (s : State) : (deliverAll s).sharedQueue = [] := rfl
@[simp] theorem afterExchange_ws (s : State) : (afterExchange s).ws = false := rfl
@[simp] theorem afterExchange_held (s : State) : (afterExchange s).held = none := rfl
@[simp] theorem afterExchange_cache (s : State) : (afterExchange s).cache = [] := rfl
@[simp] theorem afterExchange_ibufStored (s : State) : (afterExchange s).ibufStored = [] := rfl
@[simp] theorem writeA_a (i : BitVec 3) (w : Word) (s : State) : (writeA i w s).a = setReg s.a i (w.setWidth 32) := rfl
@[simp] theorem writeS_s (i : BitVec 3) (w : Word) (s : State) : (writeS i w s).s = setReg s.s i w := rfl

end Sys2Proof.Machine
end

