-- ==== Sys2Proof/Laws/Memory.lean ====
section
/-! SUPPORT. Read after write, the canonical form of memory, and what each memory operation can answer. -/

namespace Sys2Proof.Machine

/-! ## One byte -/

theorem readByte_writeByte_same (m : List Host.Cell) (a : Nat) (v : Byte) : readByte (writeByte m a v) a = some v := by
  induction m with
  | nil => simp [writeByte, readByte]
  | cons c rest ih =>
    obtain ⟨b, w⟩ := c
    simp only [writeByte]
    split
    · simp [readByte]
    · split
      · simp [readByte]
      · rename_i h1 h2
        simp [readByte, h2, ih]

theorem readByte_writeByte_ne (m : List Host.Cell) {a b : Nat} (v : Byte) (h : b ≠ a) :
    readByte (writeByte m a v) b = readByte m b := by
  induction m with
  | nil => simp [writeByte, readByte, h]
  | cons c rest ih =>
    obtain ⟨x, w⟩ := c
    simp only [writeByte]
    split
    · simp [readByte, h]
    · split
      · rename_i h2
        subst h2
        simp [readByte, h]
      · simp [readByte, ih]

theorem readByte_writeByte (m : List Host.Cell) (a b : Nat) (v : Byte) :
    readByte (writeByte m a v) b = if b = a then some v else readByte m b := by
  by_cases h : b = a
  · subst h; simp [readByte_writeByte_same]
  · simp [readByte_writeByte_ne m v h, h]

theorem mem_writeByte {m : List Host.Cell} {a : Nat} {v : Byte} {c : Host.Cell} (h : c ∈ writeByte m a v) :
    c = (a, v) ∨ c ∈ m := by
  induction m with
  | nil => exact Or.inl (by simpa [writeByte] using h)
  | cons d rest ih =>
    obtain ⟨b, w⟩ := d
    simp only [writeByte] at h
    split at h
    · rcases List.mem_cons.1 h with h | h
      · exact Or.inl h
      · exact Or.inr h
    · split at h
      · rcases List.mem_cons.1 h with h | h
        · exact Or.inl h
        · exact Or.inr (List.mem_cons_of_mem _ h)
      · rcases List.mem_cons.1 h with h | h
        · exact Or.inr (h ▸ List.mem_cons_self)
        · rcases ih h with h | h
          · exact Or.inl h
          · exact Or.inr (List.mem_cons_of_mem _ h)

theorem writeByte_wf {m : List Host.Cell} (a : Nat) (v : Byte) (h : Memory.wf m) : Memory.wf (writeByte m a v) := by
  induction m with
  | nil => simp [writeByte, Memory.wf]
  | cons c rest ih =>
    obtain ⟨b, w⟩ := c
    have hr := (List.pairwise_cons.1 h).1
    have ht := (List.pairwise_cons.1 h).2
    simp only [writeByte]
    split
    · rename_i hlt
      refine List.pairwise_cons.2 ⟨?_, h⟩
      intro d hd
      rcases List.mem_cons.1 hd with hd | hd
      · subst hd; exact hlt
      · exact Nat.lt_trans hlt (hr d hd)
    · split
      · rename_i _ heq
        subst heq
        exact List.pairwise_cons.2 ⟨hr, ht⟩
      · rename_i h1 h2
        refine List.pairwise_cons.2 ⟨?_, ih ht⟩
        intro d hd
        rcases mem_writeByte hd with hd | hd
        · subst hd; show b < a; omega
        · exact hr d hd

/-! ## Words -/

theorem writeBytes_wf (vs : List Byte) : ∀ {m : List Host.Cell} (a : Nat), Memory.wf m → Memory.wf (writeBytes m a vs) := by
  induction vs with
  | nil => intro m a h; exact h
  | cons v vs ih => intro m a h; exact ih (a + 1) (writeByte_wf a v h)

theorem writeWord_wf {m : List Host.Cell} (a : Nat) (w : Word) (h : Memory.wf m) : Memory.wf (writeWord m a w) :=
  writeBytes_wf _ _ h

theorem writeWords_wf (ws : List Word) : ∀ {m : List Host.Cell} (a : Nat), Memory.wf m → Memory.wf (writeWords m a ws) := by
  induction ws with
  | nil => intro m a h; exact h
  | cons w ws ih => intro m a h; exact ih (a + 1) (writeWord_wf a w h)

theorem readByte_writeBytes_out (vs : List Byte) :
    ∀ (m : List Host.Cell) (a b : Nat), b < a ∨ a + vs.length ≤ b → readByte (writeBytes m a vs) b = readByte m b := by
  induction vs with
  | nil => intro m a b _; rfl
  | cons v vs ih =>
    intro m a b h
    have hb : b < a + 1 ∨ a + 1 + vs.length ≤ b := by simp only [List.length_cons] at h; omega
    have hne : b ≠ a := by simp only [List.length_cons] at h; omega
    rw [writeBytes, ih _ _ _ hb, readByte_writeByte_ne _ _ hne]

theorem readByte_writeWord_out (m : List Host.Cell) (a b : Nat) (w : Word) (h : b < 8 * a ∨ 8 * a + 8 ≤ b) :
    readByte (writeWord m a w) b = readByte m b :=
  readByte_writeBytes_out _ _ _ _ (by simpa [wordBytes] using h)

theorem readByte_writeWord_in (m : List Host.Cell) (a n : Nat) (w : Word) (h : n < 8) :
    readByte (writeWord m a w) (8 * a + n) = (wordBytes w)[n]? := by
  simp only [writeWord, wordBytes, writeBytes, readByte_writeByte]
  match n, h with
  | 0, _ => simp only [Nat.add_zero]; split_ifs <;> first | rfl | omega
  | 1, _ => simp
  | 2, _ => simp
  | 3, _ => simp
  | 4, _ => simp
  | 5, _ => simp
  | 6, _ => simp
  | 7, _ => simp

theorem append_wordBytes (w : Word) :
    (w.extractLsb' 56 8 ++ w.extractLsb' 48 8 ++ w.extractLsb' 40 8 ++ w.extractLsb' 32 8 ++ w.extractLsb' 24 8 ++
      w.extractLsb' 16 8 ++ w.extractLsb' 8 8 ++ w.extractLsb' 0 8 : BitVec 64) = w := by
  apply BitVec.eq_of_getLsbD_eq
  intro p hp
  simp only [BitVec.getLsbD_append, BitVec.getLsbD_extractLsb']
  split_ifs <;> (rw [decide_eq_true (by omega), Bool.true_and]; congr 1; omega)

/-- A word reads back as it was written. -/
theorem readWord_writeWord_same (m : List Host.Cell) (a : Nat) (w : Word) : readWord (writeWord m a w) a = some w := by
  have h (n : Nat) (hn : n < 8) := readByte_writeWord_in m a n w hn
  have h0 := h 0 (by decide)
  simp only [Nat.add_zero] at h0
  simp [readWord, h0, h 1, h 2, h 3, h 4, h 5, h 6, h 7, wordBytes, append_wordBytes]

/-- Writing a word leaves every other word alone. -/
theorem readWord_writeWord_ne (m : List Host.Cell) {a b : Nat} (w : Word) (h : b ≠ a) :
    readWord (writeWord m a w) b = readWord m b := by
  have out (n : Nat) (hn : n < 8) : readByte (writeWord m a w) (8 * b + n) = readByte m (8 * b + n) :=
    readByte_writeWord_out m a _ w (by omega)
  have h0 := out 0 (by decide)
  simp only [Nat.add_zero] at h0
  simp [readWord, h0, out 1, out 2, out 3, out 4, out 5, out 6, out 7]

/-! ## Writes in flight -/

theorem performList_wf (ws : List (Nat × Word)) : ∀ {m : List Host.Cell}, Memory.wf m → Memory.wf (performList m ws) := by
  induction ws with
  | nil => intro m h; exact h
  | cons e ws ih => intro m h; exact ih (writeWord_wf e.1 e.2 h)

theorem performSection_wf (k : Nat) {s : State} (h : Memory.wf s.mem) : Memory.wf (performSection k s).mem :=
  performList_wf _ h

theorem performAll_wf {s : State} (h : Memory.wf s.mem) : Memory.wf (performAll s).mem := performList_wf _ h

theorem performOldest_wf (k : Nat) {s : State} (h : Memory.wf s.mem) : Memory.wf (performOldest k s).mem := by
  unfold performOldest
  split
  · exact writeWord_wf _ _ h
  · exact h

/-- A byte after a list of writes depends only on the writes to its own word. -/
theorem readByte_performList (ws : List (Nat × Word)) (b : Nat) :
    ∀ m : List Host.Cell, readByte (performList m ws) b = readByte (performList m (ws.filter fun e => e.1 == b / 8)) b := by
  have key : ∀ (ws : List (Nat × Word)) (m m' : List Host.Cell), readByte m b = readByte m' b →
      readByte (performList m ws) b = readByte (performList m' (ws.filter fun e => e.1 == b / 8)) b := by
    intro ws
    induction ws with
    | nil => intro m m' h; exact h
    | cons e ws ih =>
      intro m m' h
      by_cases he : e.1 = b / 8
      · have hf : ((e :: ws).filter fun e => e.1 == b / 8) = e :: ws.filter fun e => e.1 == b / 8 := by simp [he]
        rw [hf]
        refine ih (writeWord m e.1 e.2) (writeWord m' e.1 e.2) ?_
        have hb : b = 8 * e.1 + b % 8 := by omega
        rw [hb, readByte_writeWord_in _ _ _ _ (by omega), readByte_writeWord_in _ _ _ _ (by omega)]
      · have hf : ((e :: ws).filter fun e => e.1 == b / 8) = ws.filter fun e => e.1 == b / 8 := by simp [he]
        rw [hf]
        refine ih (writeWord m e.1 e.2) m' ?_
        rw [readByte_writeWord_out _ _ _ _ (by omega), h]
  intro m
  exact key ws m m rfl

/-- Performing one section's queue changes no byte as this CPU finds it (20 R94). -/
@[simp] theorem byteAt_performSection (k : Nat) (s : State) (b : Nat) : byteAt (performSection k s) b = byteAt s b := by
  have hsplit (m : List Host.Cell) (ws vs : List (Nat × Word)) :
      performList (performList m ws) vs = performList m (ws ++ vs) := by simp [performList, List.foldl_append]
  unfold byteAt performAll performSection
  simp only [hsplit]
  rw [readByte_performList, readByte_performList s.pending]
  congr 1
  congr 1
  by_cases hk : (b / 8) % 8 = k
  · have h1 : ((s.pending.filter fun e => !inSection k e).filter fun e => e.1 == b / 8) = [] := by
      simp only [List.filter_filter, List.filter_eq_nil_iff]
      intro e _ he
      simp only [Bool.and_eq_true, beq_iff_eq, Bool.not_eq_true', inSection, beq_eq_false_iff_ne] at he
      exact he.2 (he.1 ▸ hk)
    rw [List.filter_append, h1, List.append_nil, List.filter_filter]
    apply List.filter_congr
    intro e _
    by_cases he : e.1 = b / 8 <;> simp [he, inSection, hk]
  · have h1 : ((s.pending.filter (inSection k)).filter fun e => e.1 == b / 8) = [] := by
      simp only [List.filter_filter, List.filter_eq_nil_iff]
      intro e _ he
      simp only [Bool.and_eq_true, beq_iff_eq, inSection] at he
      exact hk (he.1 ▸ he.2)
    rw [List.filter_append, h1, List.nil_append, List.filter_filter]
    apply List.filter_congr
    intro e _
    by_cases he : e.1 = b / 8 <;> simp [he, inSection, hk]

@[simp] theorem byteAt_performAll (s : State) (b : Nat) : byteAt (performAll s) b = byteAt s b := rfl

/-- Two states with the same memory and the same writes in flight show the same bytes. -/
theorem byteAt_congr {s t : State} (hm : t.mem = s.mem) (hp : t.pending = s.pending) (b : Nat) :
    byteAt t b = byteAt s b := by simp [byteAt, hm, hp]

/-! ## What a reference can answer -/

theorem absRead_done {a : Nat} {s s' : State} {w : Word} (h : absRead a s = .done (w, s')) :
    a < memWords s.sys ∧ s' = performSection (a % 8) s ∧ readWord s'.mem a = some w := by
  unfold absRead at h
  split at h
  · cases h
  · rename_i hlt
    dsimp only at h
    split at h
    · rename_i v hv
      cases h
      exact ⟨by omega, rfl, hv⟩
    · cases h

theorem absWrite_done {a : Nat} {v : Word} {s s' : State} (h : absWrite a v s = .done s') :
    a < memWords s.sys ∧
      s' = { s with pending := s.pending ++ [(a, v)], ibufStored := markStored a s.ibufStored } := by
  unfold absWrite at h
  split at h
  · cases h
  · cases h
    exact ⟨by omega, rfl⟩

theorem dataAddress_done {l : AWord} {s : State} {a : Nat} (h : dataAddress l s = .done a) :
    dataInRange s l = true ∧ a = absoluteOf s l := by
  unfold dataAddress at h
  split at h
  · rename_i hr
    cases h
    exact ⟨hr, rfl⟩
  · split at h <;> cases h

theorem andThen_done {α β : Type} {x : Access α} {f : α → Access β} {b : β} (h : x.andThen f = .done b) :
    ∃ a, x = .done a ∧ f a = .done b := by
  cases x with
  | done a => exact ⟨a, rfl, h⟩
  | rangeError => cases h
  | fault _ => cases h
  | refused _ => cases h

theorem scalarRead_done {l : AWord} {s s' : State} {w : Word} (h : scalarRead l s = .done (w, s')) :
    dataInRange s l = true ∧
      ((s.ce = true ∧ cacheFind s.cache (absoluteOf s l) = some w ∧ s' = s) ∨
        ∃ r, absRead (absoluteOf s l) s = .done (w, r) ∧ s' = { r with cache := cacheKeep r (absoluteOf s l) w }) := by
  obtain ⟨a, ha, h⟩ := andThen_done h
  obtain ⟨hr, rfl⟩ := dataAddress_done ha
  refine ⟨hr, ?_⟩
  split at h
  · rename_i v hv
    cases h
    refine Or.inl ?_
    cases hc : s.ce <;> simp [hc] at hv ⊢
    exact hv
  · obtain ⟨⟨v, r⟩, hv, h⟩ := andThen_done h
    cases h
    exact Or.inr ⟨r, hv, rfl⟩

theorem scalarWrite_done {l : AWord} {v : Word} {s s' : State} (h : scalarWrite l v s = .done s') :
    dataInRange s l = true ∧
      ∃ r, absWrite (absoluteOf s l) v s = .done r ∧ s' = { r with cache := cacheKeep r (absoluteOf s l) v } := by
  obtain ⟨a, ha, h⟩ := andThen_done h
  obtain ⟨hr, rfl⟩ := dataAddress_done ha
  obtain ⟨r, hw, h⟩ := andThen_done h
  cases h
  exact ⟨hr, r, hw, rfl⟩

theorem vectorWrite_done {l : AWord} {v : Word} {s s' : State} (h : vectorWrite l v s = .done s') :
    dataInRange s l = true ∧
      ∃ r, absWrite (absoluteOf s l) v s = .done r ∧ s' = { r with cache := cacheDrop r.cache (absoluteOf s l) } := by
  obtain ⟨a, ha, h⟩ := andThen_done h
  obtain ⟨hr, rfl⟩ := dataAddress_done ha
  obtain ⟨r, hw, h⟩ := andThen_done h
  cases h
  exact ⟨hr, r, hw, rfl⟩

theorem blockWrite_done {l : AWord} {v : Word} {s s' : State} (h : blockWrite l v s = .done s') :
    dataInRange s l = true ∧ absWrite (absoluteOf s l) v s = .done s' := by
  obtain ⟨a, ha, h⟩ := andThen_done h
  obtain ⟨hr, rfl⟩ := dataAddress_done ha
  exact ⟨hr, h⟩

theorem uncachedRead_done {l : AWord} {s s' : State} {w : Word} (h : uncachedRead l s = .done (w, s')) :
    dataInRange s l = true ∧ absRead (absoluteOf s l) s = .done (w, s') := by
  obtain ⟨a, ha, h⟩ := andThen_done h
  obtain ⟨hr, rfl⟩ := dataAddress_done ha
  exact ⟨hr, h⟩

/-- A queued write is found by this CPU at its word, and nowhere else (20 R94). -/
theorem byteAt_append (s : State) (a : Nat) (v : Word) (b : Nat) :
    byteAt { s with pending := s.pending ++ [(a, v)] } b =
      if 8 * a ≤ b ∧ b < 8 * a + 8 then (wordBytes v)[b - 8 * a]? else byteAt s b := by
  have h : byteAt { s with pending := s.pending ++ [(a, v)] } b =
      readByte (writeWord (performList s.mem s.pending) a v) b := by
    simp [byteAt, performAll, performList, List.foldl_append]
  rw [h]
  split
  · rename_i hb
    have e : b = 8 * a + (b - 8 * a) := by omega
    rw [e, readByte_writeWord_in _ _ _ _ (by omega)]
    simp
  · rw [readByte_writeWord_out _ _ _ _ (by omega)]
    rfl

/-! ## Words as this CPU finds them -/

/-- Memories with the same bytes have the same words. -/
theorem readWord_congr {m n : List Host.Cell} {a : Nat} (h : ∀ b, b / 8 = a → readByte m b = readByte n b) :
    readWord m a = readWord n a := by
  unfold readWord
  rw [h (8 * a) (by omega), h (8 * a + 1) (by omega), h (8 * a + 2) (by omega), h (8 * a + 3) (by omega),
    h (8 * a + 4) (by omega), h (8 * a + 5) (by omega), h (8 * a + 6) (by omega), h (8 * a + 7) (by omega)]

theorem wordAt_congr {s t : State} {a : Nat} (h : ∀ b, b / 8 = a → byteAt t b = byteAt s b) :
    wordAt t a = wordAt s a := readWord_congr h

@[simp] theorem wordAt_performSection (k : Nat) (s : State) (a : Nat) : wordAt (performSection k s) a = wordAt s a :=
  wordAt_congr fun b _ => byteAt_performSection k s b

/-- Once its section's writes are performed, a word in memory is the word this CPU finds (20 R105). -/
theorem readWord_performSection (s : State) (a : Nat) : readWord (performSection (a % 8) s).mem a = wordAt s a := by
  rw [← wordAt_performSection (a % 8) s a]
  apply readWord_congr
  intro b hb
  show _ = readByte (performList (performSection (a % 8) s).mem (performSection (a % 8) s).pending) b
  rw [readByte_performList]
  have h : (performSection (a % 8) s).pending.filter (fun e => e.1 == b / 8) = [] := by
    simp only [performSection, List.filter_filter, List.filter_eq_nil_iff, inSection]
    intro e _
    simp only [Bool.and_eq_true, beq_iff_eq, Bool.not_eq_true', beq_eq_false_iff_ne, not_and, ne_eq]
    intro he
    rw [he, hb]
    exact fun h => h rfl
  rw [h]
  rfl

/-- A reference to a word that exists and holds a value answers it (20 R105). -/
theorem absRead_of_wordAt {s : State} {a : Nat} {w : Word} (ha : a < memWords s.sys) (hw : wordAt s a = some w) :
    absRead a s = .done (w, performSection (a % 8) s) := by
  unfold absRead
  rw [if_neg (by omega)]
  dsimp only
  rw [readWord_performSection, hw]

/-- The word last stored is the word found. -/
theorem wordAt_append_same (s : State) (a : Nat) (v : Word) :
    wordAt { s with pending := s.pending ++ [(a, v)] } a = some v := by
  simp only [wordAt, performAll, performList, List.foldl_append, List.foldl_cons, List.foldl_nil,
    readWord_writeWord_same]

/-! ## The canonical form, operation by operation -/

theorem reset_memory_wf : Memory.wf State.reset.mem := by decide

theorem absRead_wf {a : Nat} {s s' : State} {w : Word} (h : absRead a s = .done (w, s')) (hs : Memory.wf s.mem) :
    Memory.wf s'.mem := by
  rw [(absRead_done h).2.1]
  exact performSection_wf _ hs

theorem absWrite_wf {a : Nat} {v : Word} {s s' : State} (h : absWrite a v s = .done s') (hs : Memory.wf s.mem) :
    Memory.wf s'.mem := by
  rw [(absWrite_done h).2]
  exact hs

theorem scalarRead_wf {l : AWord} {s s' : State} {w : Word} (h : scalarRead l s = .done (w, s'))
    (hs : Memory.wf s.mem) : Memory.wf s'.mem := by
  rcases (scalarRead_done h).2 with ⟨_, _, rfl⟩ | ⟨r, hr, rfl⟩
  · exact hs
  · exact absRead_wf (s' := r) hr hs

theorem scalarWrite_wf {l : AWord} {v : Word} {s s' : State} (h : scalarWrite l v s = .done s')
    (hs : Memory.wf s.mem) : Memory.wf s'.mem := by
  obtain ⟨_, r, hr, rfl⟩ := scalarWrite_done h
  exact absWrite_wf (s' := r) hr hs

theorem vectorWrite_wf {l : AWord} {v : Word} {s s' : State} (h : vectorWrite l v s = .done s')
    (hs : Memory.wf s.mem) : Memory.wf s'.mem := by
  obtain ⟨_, r, hr, rfl⟩ := vectorWrite_done h
  exact absWrite_wf (s' := r) hr hs

theorem blockWrite_wf {l : AWord} {v : Word} {s s' : State} (h : blockWrite l v s = .done s')
    (hs : Memory.wf s.mem) : Memory.wf s'.mem := absWrite_wf (blockWrite_done h).2 hs

theorem uncachedRead_wf {l : AWord} {s s' : State} {w : Word} (h : uncachedRead l s = .done (w, s'))
    (hs : Memory.wf s.mem) : Memory.wf s'.mem := absRead_wf (uncachedRead_done h).2 hs

theorem placeParcel_wf {s : State} (q : BitVec 24) (p : Parcel) (h : Memory.wf s.mem) :
    Memory.wf (placeParcel s q p).mem := writeWord_wf _ _ h

theorem placeTableWord_wf {s : State} (nbits w : Nat) (h : Memory.wf s.mem) :
    Memory.wf (placeTableWord s nbits w).mem :=
  placeParcel_wf _ _ (placeParcel_wf _ _ (placeParcel_wf _ _ h))

/-! ## The scalar cache -/

theorem cacheFind_cacheInsert_same (c : List (Nat × Word)) (a : Nat) (v : Word) :
    cacheFind (cacheInsert c a v) a = some v := by
  induction c with
  | nil => simp [cacheInsert, cacheFind]
  | cons e rest ih =>
    obtain ⟨b, w⟩ := e
    simp only [cacheInsert]
    split_ifs with h1 h2
    · simp [cacheFind]
    · simp [cacheFind]
    · simp [cacheFind, h2, ih]

theorem cacheFind_cacheInsert_ne (c : List (Nat × Word)) {a x : Nat} (v : Word) (h : x ≠ a) :
    cacheFind (cacheInsert c a v) x = cacheFind c x := by
  induction c with
  | nil => simp [cacheInsert, cacheFind, h]
  | cons e rest ih =>
    obtain ⟨b, w⟩ := e
    simp only [cacheInsert]
    split_ifs with h1 h2
    · simp [cacheFind, h]
    · subst h2
      simp [cacheFind, h]
    · simp only [cacheFind, ih]

theorem cacheFind_cacheDrop_same (c : List (Nat × Word)) (a : Nat) : cacheFind (cacheDrop c a) a = none := by
  induction c with
  | nil => rfl
  | cons e rest ih =>
    obtain ⟨b, w⟩ := e
    by_cases h : b = a
    · subst h
      simpa [cacheDrop] using ih
    · have : (b != a) = true := by simpa using h
      simp only [cacheDrop, List.filter_cons, this, if_true, cacheFind, Ne.symm h, if_false]
      exact ih

theorem cacheFind_cacheDrop_ne (c : List (Nat × Word)) {a x : Nat} (h : x ≠ a) :
    cacheFind (cacheDrop c a) x = cacheFind c x := by
  induction c with
  | nil => rfl
  | cons e rest ih =>
    obtain ⟨b, w⟩ := e
    by_cases hb : b = a
    · subst hb
      simpa [cacheDrop, cacheFind, h] using ih
    · have hba : (b != a) = true := by simpa using hb
      simp only [cacheDrop, List.filter_cons, hba, if_true, cacheFind]
      split_ifs
      · rfl
      · exact ih

end Sys2Proof.Machine
end

