-- ==== Sys2Proof/Laws/Environment.lean ====
section
/-! SUPPORT. What the other agents can and cannot change (log 21). -/

namespace Sys2Proof.Machine

theorem getLsbD_setCpuBit (m : BitVec 32) (n : Nat) (v : Bool) (b : Nat) (hb : b < 32) :
    (setCpuBit m n v).getLsbD b = if b = n then v else m.getLsbD b := by
  unfold setCpuBit
  by_cases h : b = n
  · subst h
    cases v <;> simp [hb]
  · cases v <;> simp [h, hb]

/-- What holds of a state, and of it after the effect of any event, holds after any event. -/
theorem applyEvent_keeps {P : State → Prop} (h : ∀ s e, P s → P (eventEffect s e)) (s : State) (e : Event) (hs : P s) :
    P (applyEvent s e) := by
  unfold applyEvent
  split
  · exact h s e hs
  · exact hs

/-- The effect of one event changes these fields at most. -/
theorem eventEffect_kept (s : State) (e : Event) :
    eventEffect s e =
      { s with
        cache := (eventEffect s e).cache, ibufStored := (eventEffect s e).ibufStored, pending := (eventEffect s e).pending
        sharedQueue := (eventEffect s e).sharedQueue, mem := (eventEffect s e).mem, clusters := (eventEffect s e).clusters
        rtc := (eventEffect s e).rtc, chans := (eventEffect s e).chans, peers := (eventEffect s e).peers
        ipiPending := (eventEffect s e).ipiPending, ivcPending := (eventEffect s e).ivcPending
        pciRequest := (eventEffect s e).pciRequest, inputs := (eventEffect s e).inputs
        seq := (eventEffect s e).seq } := by
  cases e with
  | perform sec => simp only [eventEffect, performOldest]; split <;> rfl
  | deliver => simp only [eventEffect, deliverOldest]; split <;> rfl
  | clockRequest => simp only [eventEffect]; split <;> rfl
  | cacheInvalidated => simp only [eventEffect]; split <;> rfl
  | channelWord n w => simp only [eventEffect, moveChannelWord]; split <;> (try split) <;> rfl
  | channelDone n err => simp only [eventEffect, finishChannel]; split <;> rfl
  | deviceReady n => simp only [eventEffect]; split <;> rfl
  | peerStore a w => simp only [eventEffect]; split <;> rfl
  | peerInterruptCleared n => simp only [eventEffect]; split <;> rfl
  | peerInvalidated n => simp only [eventEffect]; split <;> rfl
  | peerStatus n st => simp only [eventEffect]; split <;> rfl
  | _ => rfl

/-- What holds of a state, and of it after any event, holds after any batch of events. -/
theorem foldl_applyEvent {P : State → Prop} (h : ∀ s e, P s → P (eventEffect s e)) (batch : List Event) :
    ∀ s, P s → P (batch.foldl applyEvent s) := by
  induction batch with
  | nil => intro s hs; exact hs
  | cons e es ih => intro s hs; exact ih _ (applyEvent_keeps h s e hs)

/-- What holds whatever batches wait and whatever draws were made, and is kept by every event, is kept by the
environment. -/
theorem environment_keeps {P : State → Prop} (h0 : ∀ s inputs seq, P s → P { s with inputs := inputs, seq := seq })
    (h : ∀ s e, P s → P (eventEffect s e)) {s : State} (hs : P s) : P (environment s) := by
  unfold environment
  split
  · exact h0 s s.inputs _ hs
  · exact foldl_applyEvent h _ _ (h0 _ _ _ hs)

/-- The environment changes these fields at most. -/
theorem environment_kept (s : State) :
    environment s =
      { s with
        cache := (environment s).cache, ibufStored := (environment s).ibufStored, pending := (environment s).pending
        sharedQueue := (environment s).sharedQueue, mem := (environment s).mem, clusters := (environment s).clusters
        rtc := (environment s).rtc, chans := (environment s).chans, peers := (environment s).peers
        ipiPending := (environment s).ipiPending, ivcPending := (environment s).ivcPending
        pciRequest := (environment s).pciRequest, inputs := (environment s).inputs, seq := (environment s).seq } := by
  apply environment_keeps (P := fun t => t =
      { s with
        cache := t.cache, ibufStored := t.ibufStored, pending := t.pending, sharedQueue := t.sharedQueue
        mem := t.mem, clusters := t.clusters, rtc := t.rtc, chans := t.chans, peers := t.peers
        ipiPending := t.ipiPending, ivcPending := t.ivcPending, pciRequest := t.pciRequest
        inputs := t.inputs, seq := t.seq })
  · rintro t inputs seq h
    rw [h]
  · rintro t e h
    rw [eventEffect_kept t e]
    generalize eventEffect t e = u
    rw [h]
  · rfl

/-- While no other agent acts only the count of draws goes on. -/
theorem environment_of_no_inputs {s : State} (h : s.inputs = []) : environment s = { s with seq := s.seq + 1 } := by
  simp [environment, h]

@[simp] theorem environment_a (s : State) : (environment s).a = s.a := by
  rw [environment_kept]
@[simp] theorem environment_s (s : State) : (environment s).s = s.s := by
  rw [environment_kept]
@[simp] theorem environment_b (s : State) : (environment s).b = s.b := by
  rw [environment_kept]
@[simp] theorem environment_t (s : State) : (environment s).t = s.t := by
  rw [environment_kept]
@[simp] theorem environment_v (s : State) : (environment s).v = s.v := by
  rw [environment_kept]
@[simp] theorem environment_vl (s : State) : (environment s).vl = s.vl := by
  rw [environment_kept]
@[simp] theorem environment_vm (s : State) : (environment s).vm = s.vm := by
  rw [environment_kept]
@[simp] theorem environment_p (s : State) : (environment s).p = s.p := by
  rw [environment_kept]
@[simp] theorem environment_iba (s : State) : (environment s).iba = s.iba := by
  rw [environment_kept]
@[simp] theorem environment_ila (s : State) : (environment s).ila = s.ila := by
  rw [environment_kept]
@[simp] theorem environment_dba (s : State) : (environment s).dba = s.dba := by
  rw [environment_kept]
@[simp] theorem environment_dla (s : State) : (environment s).dla = s.dla := by
  rw [environment_kept]
@[simp] theorem environment_xa (s : State) : (environment s).xa = s.xa := by
  rw [environment_kept]
@[simp] theorem environment_flags (s : State) : (environment s).flags = s.flags := by
  rw [environment_kept]
@[simp] theorem environment_modes (s : State) : (environment s).modes = s.modes := by
  rw [environment_kept]
@[simp] theorem environment_ce (s : State) : (environment s).ce = s.ce := by
  rw [environment_kept]
@[simp] theorem environment_cln (s : State) : (environment s).cln = s.cln := by
  rw [environment_kept]
@[simp] theorem environment_pn (s : State) : (environment s).pn = s.pn := by
  rw [environment_kept]
@[simp] theorem environment_vnu (s : State) : (environment s).vnu = s.vnu := by
  rw [environment_kept]
@[simp] theorem environment_ws (s : State) : (environment s).ws = s.ws := by
  rw [environment_kept]
@[simp] theorem environment_held (s : State) : (environment s).held = s.held := by
  rw [environment_kept]
@[simp] theorem environment_report (s : State) : (environment s).report = s.report := by
  rw [environment_kept]
@[simp] theorem environment_ii (s : State) : (environment s).ii = s.ii := by
  rw [environment_kept]
@[simp] theorem environment_pciEnable (s : State) : (environment s).pciEnable = s.pciEnable := by
  rw [environment_kept]
@[simp] theorem environment_perf (s : State) : (environment s).perf = s.perf := by
  rw [environment_kept]
@[simp] theorem environment_maint (s : State) : (environment s).maint = s.maint := by
  rw [environment_kept]
@[simp] theorem environment_running (s : State) : (environment s).running = s.running := by
  rw [environment_kept]
@[simp] theorem environment_sys (s : State) : (environment s).sys = s.sys := by
  rw [environment_kept]

/-! ## Memory -/

theorem eventEffect_wf (s : State) (e : Event) (h : Memory.wf s.mem) : Memory.wf (eventEffect s e).mem := by
  cases e with
  | perform sec => exact performOldest_wf _ h
  | deliver => simp only [eventEffect, deliverOldest]; split <;> exact h
  | clockRequest => simp only [eventEffect]; split <;> exact h
  | cacheInvalidated => simp only [eventEffect]; split <;> exact h
  | channelWord n w =>
    simp only [eventEffect, moveChannelWord]
    split
    · split
      · exact writeWord_wf _ _ h
      · exact h
    · exact h
  | channelDone n err => simp only [eventEffect, finishChannel]; split <;> exact h
  | deviceReady n => simp only [eventEffect]; split <;> exact h
  | peerStore a w =>
    simp only [eventEffect]
    split
    · exact writeWord_wf _ _ h
    · exact h
  | peerInterruptCleared n => simp only [eventEffect]; split <;> exact h
  | peerInvalidated n => simp only [eventEffect]; split <;> exact h
  | peerStatus n st => simp only [eventEffect]; split <;> exact h
  | _ => exact h

theorem environment_wf {s : State} (h : Memory.wf s.mem) : Memory.wf (environment s).mem :=
  environment_keeps (P := fun t => Memory.wf t.mem) (fun _ _ _ h => h) eventEffect_wf h

end Sys2Proof.Machine
end

