-- ==== Sys2Proof/Laws/Registers.lean ====
section
/-! SUPPORT. Reading a register after writing one, and the bits of a number built bit by bit. -/

namespace Sys2Proof.Machine

@[simp] theorem reg_setReg_same {α : Type} (r : Vector α 8) (n : BitVec 3) (x : α) : reg (setReg r n x) n = x := by
  simp [reg, setReg]

theorem reg_setReg_ne {α : Type} (r : Vector α 8) {m n : BitVec 3} (x : α) (h : m ≠ n) :
    reg (setReg r n x) m = reg r m := by
  have hne : n.toNat ≠ m.toNat := fun e => h (BitVec.eq_of_toNat_eq e.symm)
  simp [reg, setReg, Vector.getElem_set_ne, hne]

theorem reg_setReg {α : Type} (r : Vector α 8) (m n : BitVec 3) (x : α) :
    reg (setReg r n x) m = if m = n then x else reg r m := by
  by_cases h : m = n
  · subst h; simp
  · simp [reg_setReg_ne r x h, h]

@[simp] theorem reg64_setReg64_same {α : Type} (r : Vector α 64) (n : BitVec 6) (x : α) :
    reg64 (setReg64 r n x) n = x := by
  simp [reg64, setReg64]

theorem reg64_setReg64_ne {α : Type} (r : Vector α 64) {m n : BitVec 6} (x : α) (h : m ≠ n) :
    reg64 (setReg64 r n x) m = reg64 r m := by
  have hne : n.toNat ≠ m.toNat := fun e => h (BitVec.eq_of_toNat_eq e.symm)
  simp [reg64, setReg64, Vector.getElem_set_ne, hne]

theorem getLsbD_bitsOf (n : Nat) (f : Nat → Bool) (p : Nat) : (bitsOf n f).getLsbD p = (decide (p < n) && f p) := by
  induction n with
  | zero => simp [bitsOf]
  | succ n ih =>
    simp only [bitsOf, BitVec.getLsbD_cast, BitVec.getLsbD_append, ih]
    by_cases h : p < n
    · simp [h, Nat.lt_succ_of_lt h]
    · by_cases e : p = n
      · subst e; simp
      · have : ¬p < n + 1 := by omega
        have h0 : p - n ≠ 0 := by omega
        simp [h, this, BitVec.getLsbD_ofBool, h0]

/-- An element below VL of a vector result is the computed one; the others stay (46 R410). -/
theorem getElem_vectorWith (vl : BitVec 7) (old : Vector Word 64) (f : Nat → Word) (e : Nat) (h : e < 64) :
    (vectorWith vl old f)[e] = if e < vl.toNat then f e else old[e] := by
  simp [vectorWith]

theorem element_lt (s : State) (n : BitVec 3) (e : Nat) (h : e < 64) : element s n e = (reg s.v n)[e] := by
  simp [element, h]

end Sys2Proof.Machine
end

