-- ==== Sys2Proof/Laws/Exchange.lean ====
section
/-! SUPPORT. What the exchange sequence can do (spec/60_exceptions.md, section 1). -/

namespace Sys2Proof.Machine

/-! ## The fields FLAGS and MODES -/

theorem getLsbD_packFlags (f : Flags) (n : Fin 11) :
    (packFlags f).getLsbD (Config.flagBit n).val = (flagList f).getD n.val false := by
  rw [packFlags, getLsbD_bitsOf]
  simp

/-- Flags packed and unpacked are the same flags (60 R504). -/
@[simp] theorem unpackFlags_packFlags (f : Flags) : unpackFlags (packFlags f) = f := by
  simp only [unpackFlags, flagAt, getLsbD_packFlags]
  rfl

/-- A field unpacked and packed is the same field: every bit of FLAGS is one of the eleven flags. -/
@[simp] theorem packFlags_unpackFlags (x : BitVec 11) : packFlags (unpackFlags x) = x := by
  apply BitVec.eq_of_getLsbD_eq
  intro p hp
  obtain ⟨n, hn⟩ : ∃ n : Fin 11, Config.flagBit n = ⟨p, hp⟩ := ⟨Config.flagBit.symm ⟨p, hp⟩, by simp⟩
  have e : p = (Config.flagBit n).val := by rw [hn]
  rw [e, getLsbD_packFlags]
  fin_cases n <;> rfl

theorem getLsbD_packModes (m : Modes) (n : Fin 12) :
    (packModes m).getLsbD (Config.modeBit n).val = (modeList m).getD n.val false := by
  rw [packModes, getLsbD_bitsOf]
  simp

/-- Modes packed and unpacked are the same modes (60 R504). -/
@[simp] theorem unpackModes_packModes (m : Modes) : unpackModes (packModes m) = m := by
  obtain ⟨mm, sei, bdm, ifp, ior, rest⟩ := m
  simp only [unpackModes, modeAt, getLsbD_packModes]
  have h : (bitsOf 7 fun n => if h : n + 5 < 12 then
      (modeList ⟨mm, sei, bdm, ifp, ior, rest⟩).getD (⟨n + 5, h⟩ : Fin 12).val false else false) = rest := by
    apply BitVec.eq_of_getLsbD_eq
    intro p hp
    rw [getLsbD_bitsOf]
    interval_cases p <;> rfl
  rw [h]
  rfl

/-- A field unpacked and packed is the same field: every bit of MODES is one of the twelve mode bits. -/
@[simp] theorem packModes_unpackModes (x : BitVec 12) : packModes (unpackModes x) = x := by
  apply BitVec.eq_of_getLsbD_eq
  intro p hp
  obtain ⟨n, hn⟩ : ∃ n : Fin 12, Config.modeBit n = ⟨p, hp⟩ := ⟨Config.modeBit.symm ⟨p, hp⟩, by simp⟩
  have e : p = (Config.modeBit n).val := by rw [hn]
  rw [e, getLsbD_packModes]
  have h (k : Nat) (hk : k < 7) : (unpackModes x).rest.getLsbD k = x.getLsbD (Config.modeBit ⟨k + 5, by omega⟩).val := by
    rw [unpackModes, getLsbD_bitsOf]
    simp only [hk, decide_true, Bool.true_and, modeAt]
    rw [dif_pos (by omega)]
  fin_cases n
  · rfl
  · rfl
  · rfl
  · rfl
  · rfl
  · exact h 0 (by decide)
  · exact h 1 (by decide)
  · exact h 2 (by decide)
  · exact h 3 (by decide)
  · exact h 4 (by decide)
  · exact h 5 (by decide)
  · exact h 6 (by decide)

/-- No flag is set exactly when the field is 0 (60 R524). -/
theorem unpackFlags_eq_none (x : BitVec 11) : unpackFlags x = Flags.none ↔ x = 0 := by
  constructor
  · intro h
    rw [← packFlags_unpackFlags x, h]
    apply BitVec.eq_of_getLsbD_eq
    intro p hp
    rw [packFlags, getLsbD_bitsOf, dif_pos hp]
    generalize (Config.flagBit.symm ⟨p, hp⟩) = n
    have h0 : (flagList Flags.none).getD n.val false = false := by fin_cases n <;> rfl
    rw [h0, Bool.and_false, BitVec.ofNat_eq_ofNat, BitVec.getLsbD_zero]
  · rintro rfl
    simp [unpackFlags, flagAt, Flags.none]

/-! ## The words of a package in memory -/

theorem readWords_writeWords_out (ws : List Word) :
    ∀ (m : List Host.Cell) (a b : Nat), b < a ∨ a + ws.length ≤ b → readWord (writeWords m a ws) b = readWord m b := by
  induction ws with
  | nil => intro m a b _; rfl
  | cons w ws ih =>
    intro m a b h
    simp only [List.length_cons] at h
    rw [writeWords, ih _ _ _ (by omega), readWord_writeWord_ne _ _ (by omega)]

/-- Words written at rising addresses are the words read there. -/
theorem readWords_writeWords_same (ws : List Word) :
    ∀ (m : List Host.Cell) (a : Nat), readWords (writeWords m a ws) a ws.length = some ws := by
  induction ws with
  | nil => intro m a; rfl
  | cons w ws ih =>
    intro m a
    have h := readWords_writeWords_out ws (writeWord m a w) (a + 1) a (by omega)
    simp only [List.length_cons, readWords, writeWords, h, readWord_writeWord_same, ih]
    rfl

theorem readByte_writeWords_out (ws : List Word) :
    ∀ (m : List Host.Cell) (a b : Nat), b / 8 < a ∨ a + ws.length ≤ b / 8 →
      readByte (writeWords m a ws) b = readByte m b := by
  induction ws with
  | nil => intro m a b _; rfl
  | cons w ws ih =>
    intro m a b h
    simp only [List.length_cons] at h
    rw [writeWords, ih _ _ _ (by omega), readByte_writeWord_out _ _ _ _ (by omega)]

theorem readWords_length {m : List Host.Cell} : ∀ {n a : Nat} {ws : List Word}, readWords m a n = some ws →
    ws.length = n := by
  intro n
  induction n with
  | zero => intro a ws h; simp [readWords] at h; simp [← h]
  | succ n ih =>
    intro a ws h
    simp only [readWords, Option.bind_eq_bind, Option.bind_eq_some_iff] at h
    obtain ⟨w, _, vs, hv, h⟩ := h
    cases h
    simp [ih hv]

/-! ## The sequence -/

/-- If the sequence answers a next state, the package is in memory, its words are loaded, and it may run (60 R505). -/
theorem swapPackage_next {xa : BitVec 10} {saved : List Word} {s t : State} (h : swapPackage xa saved s = .next t) :
    ∃ new, xa.toNat * 16 + 15 < memWords s.sys ∧ readWords s.mem (xa.toNat * 16) 16 = some new ∧
      t = afterExchange (unpackPackage new { s with mem := writeWords s.mem (xa.toNat * 16) saved }) ∧
      1 ≤ t.vl.toNat ∧ t.vl.toNat ≤ 64 ∧ (t.modes.mm = false → t.flags = Flags.none) := by
  unfold swapPackage at h
  dsimp only at h
  split at h
  · exact absurd h (by simp)
  · next hb =>
    split at h
    · exact absurd h (by simp)
    · next new hn =>
      split at h
      · exact absurd h (by simp)
      · next hv =>
        split at h
        · exact absurd h (by simp)
        · next hf =>
          simp only [Host.Outcome.next.injEq] at h
          subst h
          refine ⟨new, by omega, hn, rfl, ?_, ?_, ?_⟩
          · simp only [afterExchange]; omega
          · simp only [afterExchange]; omega
          · intro hm
            exact Classical.not_not.1 fun hn => hf ⟨hm, hn⟩

/-- A package in memory that may run is loaded (60 R505). -/
theorem swapPackage_of_runnable {xa : BitVec 10} {saved new : List Word} {s : State}
    (hb : xa.toNat * 16 + 15 < memWords s.sys) (hn : readWords s.mem (xa.toNat * 16) 16 = some new)
    (hr : Safety.runnable new) :
    swapPackage xa saved s =
      .next (afterExchange (unpackPackage new { s with mem := writeWords s.mem (xa.toNat * 16) saved })) := by
  obtain ⟨⟨h1, h2⟩, h3⟩ := hr
  unfold swapPackage
  dsimp only
  rw [if_neg (by omega), hn]
  dsimp only
  rw [if_neg, if_neg]
  · rintro ⟨hm, hf⟩
    rcases h3 with h | h
    · simp only [unpackPackage, unpackModes, h] at hm
      exact absurd hm (by decide)
    · exact hf ((unpackFlags_eq_none _).2 h)
  · simp only [unpackPackage]
    omega

/-- The least memory a system has (20 R81). -/
theorem le_memWords (y : System) : 2 ^ 25 ≤ memWords y := by
  have hb : 2 ≤ memoryModules y.backplane := by cases y.backplane <;> simp [memoryModules]
  have hm : 2 ^ 24 ≤ moduleWords y.memory := by
    cases y.memory <;> exact Nat.pow_le_pow_right (by decide) (by decide)
  calc 2 ^ 25 = 2 * 2 ^ 24 := by norm_num
    _ ≤ memWords y := Nat.mul_le_mul hb hm

/-- XA reaches no word beyond the memory of any system. -/
theorem package_inMemory (xa : BitVec 10) (y : System) : xa.toNat * 16 + 15 < memWords y := by
  have := xa.isLt
  have := le_memWords y
  omega

/-- The state an exchange leaves: the package ws loaded, and the saved words in its place (60 R505). -/
theorem exchange_of_runnable {f : Flags} {s : State} {ws : List Word} (hp : Safety.packageAt s ws)
    (hr : Safety.runnable ws) :
    let u := drawReport (performAll s)
    exchange f s =
      .next (afterExchange (unpackPackage ws
        { u with seq := u.seq + 8, mem := writeWords (performAll s).mem (s.xa.toNat * 16) (packPackage u f) })) :=
  swapPackage_of_runnable (s := { drawReport (performAll s) with seq := (drawReport (performAll s)).seq + 8 })
    (package_inMemory s.xa s.sys) hp hr

@[simp] theorem packPackage_length (s : State) (f : Flags) : (packPackage s f).length = 16 := rfl

/-- The sixteen words saved are the words found at the package. -/
theorem readWords_packPackage (m : List Host.Cell) (a : Nat) (s : State) (f : Flags) :
    readWords (writeWords m a (packPackage s f)) a 16 = some (packPackage s f) := by
  have h := readWords_writeWords_same (packPackage s f) m a
  rwa [packPackage_length] at h

@[simp] theorem unpackPackage_mem (ws : List Word) (s : State) : (unpackPackage ws s).mem = s.mem := rfl
@[simp] theorem unpackPackage_pending (ws : List Word) (s : State) : (unpackPackage ws s).pending = s.pending := rfl
@[simp] theorem unpackPackage_b (ws : List Word) (s : State) : (unpackPackage ws s).b = s.b := rfl
@[simp] theorem unpackPackage_t (ws : List Word) (s : State) : (unpackPackage ws s).t = s.t := rfl
@[simp] theorem unpackPackage_v (ws : List Word) (s : State) : (unpackPackage ws s).v = s.v := rfl
@[simp] theorem unpackPackage_vm (ws : List Word) (s : State) : (unpackPackage ws s).vm = s.vm := rfl
@[simp] theorem unpackPackage_pn (ws : List Word) (s : State) : (unpackPackage ws s).pn = s.pn := rfl
@[simp] theorem unpackPackage_vnu (ws : List Word) (s : State) : (unpackPackage ws s).vnu = s.vnu := rfl
@[simp] theorem unpackPackage_ws (ws : List Word) (s : State) : (unpackPackage ws s).ws = s.ws := rfl
@[simp] theorem unpackPackage_held (ws : List Word) (s : State) : (unpackPackage ws s).held = s.held := rfl
@[simp] theorem unpackPackage_report (ws : List Word) (s : State) : (unpackPackage ws s).report = s.report := rfl
@[simp] theorem unpackPackage_ii (ws : List Word) (s : State) : (unpackPackage ws s).ii = s.ii := rfl
@[simp] theorem unpackPackage_pciEnable (ws : List Word) (s : State) : (unpackPackage ws s).pciEnable = s.pciEnable := rfl
@[simp] theorem unpackPackage_pciRequest (ws : List Word) (s : State) : (unpackPackage ws s).pciRequest = s.pciRequest := rfl
@[simp] theorem unpackPackage_ipiPending (ws : List Word) (s : State) : (unpackPackage ws s).ipiPending = s.ipiPending := rfl
@[simp] theorem unpackPackage_ivcPending (ws : List Word) (s : State) : (unpackPackage ws s).ivcPending = s.ivcPending := rfl
@[simp] theorem unpackPackage_perf (ws : List Word) (s : State) : (unpackPackage ws s).perf = s.perf := rfl
@[simp] theorem unpackPackage_maint (ws : List Word) (s : State) : (unpackPackage ws s).maint = s.maint := rfl
@[simp] theorem unpackPackage_cache (ws : List Word) (s : State) : (unpackPackage ws s).cache = s.cache := rfl
@[simp] theorem unpackPackage_ibufStored (ws : List Word) (s : State) : (unpackPackage ws s).ibufStored = s.ibufStored := rfl
@[simp] theorem unpackPackage_sharedQueue (ws : List Word) (s : State) : (unpackPackage ws s).sharedQueue = s.sharedQueue := rfl
@[simp] theorem unpackPackage_clusters (ws : List Word) (s : State) : (unpackPackage ws s).clusters = s.clusters := rfl
@[simp] theorem unpackPackage_rtc (ws : List Word) (s : State) : (unpackPackage ws s).rtc = s.rtc := rfl
@[simp] theorem unpackPackage_chans (ws : List Word) (s : State) : (unpackPackage ws s).chans = s.chans := rfl
@[simp] theorem unpackPackage_peers (ws : List Word) (s : State) : (unpackPackage ws s).peers = s.peers := rfl
@[simp] theorem unpackPackage_running (ws : List Word) (s : State) : (unpackPackage ws s).running = s.running := rfl
@[simp] theorem unpackPackage_sys (ws : List Word) (s : State) : (unpackPackage ws s).sys = s.sys := rfl
@[simp] theorem unpackPackage_inputs (ws : List Word) (s : State) : (unpackPackage ws s).inputs = s.inputs := rfl
@[simp] theorem unpackPackage_seq (ws : List Word) (s : State) : (unpackPackage ws s).seq = s.seq := rfl

/-- The bits of a package that the loaded registers come from (60 R504). -/
theorem loadedFrom_unpackPackage (ws : List Word) (s : State) :
    Safety.loadedFrom (afterExchange (unpackPackage ws s)) ws := by
  refine ⟨?_, ?_, rfl, rfl, rfl, rfl, rfl, rfl, rfl, rfl, packFlags_unpackFlags _, packModes_unpackModes _, rfl⟩
  · intro n
    fin_cases n <;> rfl
  · intro n
    fin_cases n <;> rfl

end Sys2Proof.Machine
end

