-- ==== Sys2Proof/Laws/Ops.lean ====
section
/-! SUPPORT. For each shared operation, all it can do when it answers a next state. -/

namespace Sys2Proof.Machine

theorem advance_toNat (n : Nat) (s : State) : (advance n s).p.toNat = (s.p.toNat + n) % 2 ^ 24 := by
  simp [advance, BitVec.toNat_add]

/-- A privileged instruction has its effect in monitor mode and only goes on elsewhere (log 11). -/
theorem privileged_next {s t : State} {effect : Result} (h : privileged s effect = .next t) :
    (s.modes.mm = true ∧ effect = .next t) ∨ (s.modes.mm = false ∧ t = advance 1 s) := by
  unfold privileged at h
  split at h
  · next hm => exact Or.inl ⟨hm, h⟩
  · next hm => exact Or.inr ⟨by simpa using hm, by simpa using h.symm⟩

theorem channelOf_some {y : System} {x : AWord} {n : Fin 64} :
    channelOf y x = some n ↔ x.toNat = n.val + 16 ∧ channelExists y n = true := by
  unfold channelOf
  constructor
  · intro h
    split at h
    · next hx =>
      split at h
      · next he =>
        rw [← Option.some.inj h]
        exact ⟨by dsimp only; omega, he⟩
      · exact absurd h (by simp)
    · exact absurd h (by simp)
  · rintro ⟨h, he⟩
    have := n.isLt
    have hn : (⟨x.toNat - 16, by omega⟩ : Fin 64) = n := Fin.ext (by dsimp only; omega)
    rw [dif_pos (by omega), hn, if_pos he]

theorem channelOf_none {y : System} {x : AWord} :
    channelOf y x = none ↔ ∀ n : Fin 64, x.toNat = n.val + 16 → channelExists y n = false := by
  constructor
  · intro h n hn
    cases he : channelExists y n with
    | false => rfl
    | true => rw [channelOf_some.2 ⟨hn, he⟩] at h; cases h
  · intro h
    cases hc : channelOf y x with
    | none => rfl
    | some n =>
      obtain ⟨h1, h2⟩ := channelOf_some.1 hc
      rw [h n h1] at h2
      cases h2

theorem commandNamed_next {number : AWord} {c : ChannelCommand} {s t : State}
    (h : commandNamed number c s = .next t) :
    ∃ n, channelOf s.sys number = some n ∧ t = { advance 1 s with chans := setChannel s n (commandChannel n c) } := by
  unfold commandNamed at h
  split at h
  · next n hn => exact ⟨n, hn, by simpa using h.symm⟩
  · exact absurd h (by simp)

theorem clusterOf_some {s : State} {c : Fin Config.maxClusters} :
    clusterOf s = some c ↔ s.cln.toNat = c.val + 1 ∧ c.val < nclusters s.sys := by
  unfold clusterOf
  constructor
  · intro h
    split at h
    · next hx =>
      rw [← Option.some.inj h]
      dsimp only
      omega
    · exact absurd h (by simp)
  · rintro ⟨h, hc⟩
    rw [dif_pos (by omega)]
    congr 1
    exact Fin.ext (by dsimp only; omega)

theorem clusterOf_none {s : State} : clusterOf s = none ↔ s.cln.toNat = 0 ∨ nclusters s.sys < s.cln.toNat := by
  unfold clusterOf
  split
  · next h => exact ⟨fun e => absurd e (by simp), fun e => by omega⟩
  · next h => exact ⟨fun _ => by omega, fun _ => rfl⟩

theorem sharedWrite_next {s t : State} {write : Fin Config.maxClusters → SharedWrite}
    (h : sharedWrite s write = .next t) :
    ∃ c, clusterOf s = some c ∧ t = { advance 1 s with sharedQueue := s.sharedQueue ++ [write c] } := by
  unfold sharedWrite at h
  split at h
  · next c hc => exact ⟨c, hc, by simpa using h.symm⟩
  · exact absurd h (by simp)

theorem sharedRead_next {s t : State} {use : Cluster → State → Result} (h : sharedRead s use = .next t) :
    ∃ c, clusterOf s = some c ∧ use (deliverAll s).clusters[c] (deliverAll s) = .next t := by
  unfold sharedRead at h
  split at h
  · next c hc => exact ⟨c, hc, h⟩
  · exact absurd h (by simp)

/-- Test and set holds, takes the deadlock exchange, or sets the semaphore and goes on (40 R199). -/
theorem testAndSet_next {n : Fin 32} {s t : State} (h : testAndSet n s = .next t) :
    ∃ c, clusterOf s = some c ∧
      (((deliverAll s).clusters[c].sm.getLsbD n.val = true ∧ t = { deliverAll s with ws := true, held := some n }) ∨
        ((deliverAll s).clusters[c].sm.getLsbD n.val = true ∧
          raise causeDl { deliverAll s with ws := true, held := some n } = .next t) ∨
        ((deliverAll s).clusters[c].sm.getLsbD n.val = false ∧
          t = { advance 1 (deliverAll s) with
            clusters := applyShared (deliverAll s).clusters (.semaphore c n true), ws := false, held := none })) := by
  unfold testAndSet at h
  split at h
  · exact absurd h (by simp)
  · next c hc =>
    refine ⟨c, hc, ?_⟩
    dsimp only at h
    split at h
    · next hs =>
      split at h
      · exact Or.inr (Or.inl ⟨hs, h⟩)
      · exact Or.inl ⟨hs, by simpa using h.symm⟩
    · next hs => exact Or.inr (Or.inr ⟨by simpa using hs, by simpa using h.symm⟩)

theorem finishFloat_next {error : Bool} {s t : State} (h : finishFloat error s = .next t) :
    ((s.modes.ifp = false ∨ error = false) ∧ t = s) ∨
      (s.modes.ifp = true ∧ error = true ∧ raise causeFpe s = .next t) := by
  unfold finishFloat at h
  split at h
  · next he =>
    simp only [Bool.and_eq_true] at he
    exact Or.inr ⟨he.1, he.2, h⟩
  · next he =>
    refine Or.inl ⟨?_, by simpa using h.symm⟩
    cases hm : s.modes.ifp with
    | false => exact Or.inl rfl
    | true => exact Or.inr (by simpa [hm] using he)

theorem maskTestIndexed_next {i j : BitVec 3} {test : Word → Bool} {s t : State}
    (h : maskTestIndexed i j test s = .next t) :
    i ≠ j ∧
      t = { advance 1 s with
        vm := maskWith s.vl fun e => test (element s j e)
        v := setReg s.v i (compressedInto (reg s.v i) (testedElements s.vl fun e => test (element s j e))) } := by
  unfold maskTestIndexed at h
  split at h
  · exact absurd h (by simp)
  · next hi => exact ⟨hi, by simpa using h.symm⟩

theorem doubleLeftV_next {i j : BitVec 3} {count : AWord} {s t : State} (h : doubleLeftV i j count s = .next t) :
    i ≠ j ∧ count.toNat < 64 ∧
      finishV i (fun e =>
        doubleLeft (element s j e) (if e + 1 = s.vl.toNat then 0 else element s j (e + 1)) count.toNat) s = .next t := by
  unfold doubleLeftV at h
  split at h
  · exact absurd h (by simp)
  · next hi =>
    split at h
    · exact absurd h (by simp)
    · next hc => exact ⟨hi, by omega, h⟩

theorem doubleRightV_next {i j : BitVec 3} {count : AWord} {s t : State} (h : doubleRightV i j count s = .next t) :
    i ≠ j ∧ count.toNat < 64 ∧
      finishV i (fun e =>
        doubleRight (if e = 0 then 0 else element s j (e - 1)) (element s j e) count.toNat) s = .next t := by
  unfold doubleRightV at h
  split at h
  · exact absurd h (by simp)
  · next hi =>
    split at h
    · exact absurd h (by simp)
    · next hc => exact ⟨hi, by omega, h⟩

/-! ## Memory instructions -/

/-- A memory instruction goes on with what its reference answered, or takes the operand range error (45 R394). -/
theorem finishMemory_next {n : Nat} {before t : State} {x : Access State} (h : finishMemory n before x = .next t) :
    (∃ s, x = .done s ∧ t = advance n s) ∨ (x = .rangeError ∧ raise causeOre (advance n before) = .next t) := by
  cases x with
  | done s => exact Or.inl ⟨s, rfl, by simpa [finishMemory] using h.symm⟩
  | rangeError => exact Or.inr ⟨rfl, h⟩
  | fault f => exact absurd h (by simp [finishMemory])
  | refused r => exact absurd h (by simp [finishMemory])

theorem scalarLoad_next {l : AWord} {write : Word → State → State} {s t : State}
    (h : scalarLoad l write s = .next t) :
    (∃ w u, scalarRead l s = .done (w, u) ∧ t = advance 3 (write w u)) ∨ raise causeOre (advance 3 s) = .next t := by
  rcases finishMemory_next h with ⟨u, hu, ht⟩ | ⟨_, hr⟩
  · obtain ⟨⟨w, v⟩, hv, hw⟩ := andThen_done hu
    exact Or.inl ⟨w, v, hv, by rw [ht]; cases hw; rfl⟩
  · exact Or.inr hr

theorem scalarStore_next {l : AWord} {v : Word} {s t : State} (h : scalarStore l v s = .next t) :
    (∃ u, scalarWrite l v s = .done u ∧ t = advance 3 u) ∨ raise causeOre (advance 3 s) = .next t := by
  rcases finishMemory_next h with ⟨u, hu, ht⟩ | ⟨_, hr⟩
  · exact Or.inl ⟨u, hu, ht⟩
  · exact Or.inr hr

/-- What each read of a transfer and each turn of the other agents keeps, the whole transfer keeps (D32). -/
theorem readElements_keeps {P : State → Prop} {at_ : Nat → AWord}
    (hr : ∀ e s w u, uncachedRead (at_ e) s = .done (w, u) → P s → P u) (he : ∀ s, P s → P (environment s))
    (es : List Nat) : ∀ {s t : State} {ws : List (Nat × Word)},
      readElements at_ es s = .done (ws, t) → P s → P t := by
  induction es with
  | nil =>
    intro s t ws h hs
    simp only [readElements, Access.done.injEq, Prod.mk.injEq] at h
    exact h.2 ▸ hs
  | cons e es ih =>
    intro s t ws h hs
    rw [readElements] at h
    obtain ⟨⟨w, u⟩, hu, h⟩ := andThen_done h
    obtain ⟨⟨vs, v⟩, hv, h⟩ := andThen_done h
    simp only [Access.done.injEq, Prod.mk.injEq] at h
    exact h.2 ▸ ih hv (he _ (hr _ _ _ _ hu hs))

/-- And so does what an abandoned load reads. -/
theorem readSome_keeps {P : State → Prop} {at_ : Nat → AWord}
    (hr : ∀ e s w u, uncachedRead (at_ e) s = .done (w, u) → P s → P u) (he : ∀ s, P s → P (environment s))
    (es : List Nat) : ∀ {s : State}, P s → P (readSome at_ es s).2 := by
  induction es with
  | nil => intro s hs; exact hs
  | cons e es ih =>
    intro s hs
    rw [readSome]
    split
    · next r h => exact ih (he _ (hr e s r.1 r.2 h hs))
    · exact ih hs

/-- An abandoned load reads words of its own elements, in order. -/
theorem readSome_elements {at_ : Nat → AWord} (es : List Nat) :
    ∀ s : State, ((readSome at_ es s).1.map Prod.fst).Sublist es := by
  induction es with
  | nil => intro s; exact List.Sublist.refl _
  | cons e es ih =>
    intro s
    rw [readSome]
    split
    · exact (ih _).cons_cons e
    · exact (ih _).cons e

/-- What each write of a transfer keeps, the whole transfer keeps. -/
theorem writeElements_keeps {P : State → Prop} {write : AWord → Word → State → Access State} {at_ : Nat → AWord}
    {value : Nat → Word} (hw : ∀ l v s u, write l v s = .done u → P s → P u) (es : List Nat) :
    ∀ {s t : State}, writeElements write at_ value es s = .done t → P s → P t := by
  induction es with
  | nil =>
    intro s t h hs
    simp only [writeElements, Access.done.injEq] at h
    exact h ▸ hs
  | cons e es ih =>
    intro s t h hs
    rw [writeElements] at h
    obtain ⟨u, hu, h⟩ := andThen_done h
    exact ih h (hw _ _ _ _ hu hs)

/-- And so do the writes of an abandoned store. -/
theorem writeSome_keeps {P : State → Prop} {write : AWord → Word → State → Access State} {at_ : Nat → AWord}
    {value : Nat → Word} {chosen : Nat → Bool} (hw : ∀ l v s u, write l v s = .done u → P s → P u) (es : List Nat) :
    ∀ {s : State}, P s → P (writeSome write at_ value chosen es s) := by
  induction es with
  | nil => intro s hs; exact hs
  | cons e es ih =>
    intro s hs
    rw [writeSome]
    split
    · next u h =>
      apply ih
      split
      · exact hw _ _ _ _ h hs
      · exact hs
    · exact ih hs

/-- What each register written keeps, all of them keep. -/
theorem putAll_keeps {P : State → Prop} {put : Nat → Word → State → State} (hp : ∀ e w s, P s → P (put e w s))
    (ws : List (Nat × Word)) : ∀ {s : State}, P s → P (putAll put ws s) := by
  induction ws with
  | nil => intro s hs; exact hs
  | cons q ws ih => intro s hs; exact ih (hp _ _ _ hs)

/-- A load transfer reads its words, puts them and goes on, or takes the operand range error from the state the abandoned
load leaves (42 R263, 47 R478). -/
theorem transferIn_next {n : Nat} {at_ : Nat → AWord} {put : Nat → Word → State → State} {s t : State}
    (h : transferIn n at_ put s = .next t) :
    (∃ ws u, readElements at_ (List.range n) s = .done (ws, u) ∧ t = advance 1 (putAll put ws u)) ∨
      (readElements at_ (List.range n) s = .rangeError ∧
        raise causeOre (advance 1 (abandonedLoad n at_ put s)) = .next t) := by
  rcases finishMemory_next h with ⟨u, hu, ht⟩ | ⟨hx, hr⟩
  · obtain ⟨⟨ws, v⟩, hv, hd⟩ := andThen_done hu
    cases hd
    exact Or.inl ⟨ws, v, hv, ht⟩
  · refine Or.inr ⟨?_, hr⟩
    revert hx
    cases readElements at_ (List.range n) s <;> simp [Access.andThen]

/-- A store transfer writes its words and goes on, or takes the operand range error from the state the abandoned store
leaves (42 R263, 47 R478). -/
theorem transferOut_next {n : Nat} {at_ : Nat → AWord} {value : Nat → Word}
    {write : AWord → Word → State → Access State} {s t : State} (h : transferOut n at_ value write s = .next t) :
    (∃ u, writeElements write at_ value (List.range n) s = .done u ∧ t = advance 1 u) ∨
      (writeElements write at_ value (List.range n) s = .rangeError ∧
        raise causeOre (advance 1 (abandonedStore n at_ value write s)) = .next t) :=
  finishMemory_next h

theorem withCount_next {i : BitVec 3} {s t : State} {go : Nat → Result} (h : withCount i s go = .next t) :
    (reg s.a i).toNat ≤ 64 ∧ go (reg s.a i).toNat = .next t := by
  unfold withCount at h
  split at h
  · exact absurd h (by simp)
  · next hc => exact ⟨by omega, h⟩

end Sys2Proof.Machine
end

