-- ==== Sys2Proof/Laws/Outcomes.lean ====
section
/-! SUPPORT. One lemma for each shared way a meaning ends, in the terms of Safety. -/

namespace Sys2Proof.Safety

open Sys2Proof.Machine

theorem pAfter_advance (s t : State) (n : Nat) (h : t.p = s.p + BitVec.ofNat 24 n) : pAfter s t n := by
  simp [pAfter, h, BitVec.toNat_add]

theorem writesA_finishA {i : BitVec 3} {x : AWord} {n : Nat} {s : State} {q : AWord → Prop} (h : q x) :
    writesA (finishA i x n s) s i n q :=
  ⟨_, rfl, by simpa using h, pAfter_advance _ _ _ rfl, fun r hr => reg_setReg_ne _ _ hr, rfl⟩

theorem writesS_finishS {i : BitVec 3} {x : Word} {n : Nat} {s : State} {q : Word → Prop} (h : q x) :
    writesS (finishS i x n s) s i n q :=
  ⟨_, rfl, by simpa using h, pAfter_advance _ _ _ rfl, fun r hr => reg_setReg_ne _ _ hr, rfl⟩

theorem writesV_finishV {i : BitVec 3} {f : Nat → Word} {s : State} {q : Nat → Word → Prop}
    (h : ∀ e < 64, e < s.vl.toNat → q e (f e)) : writesV (finishV i f s) s i q := by
  refine ⟨_, rfl, ?_, ?_, fun r hr => reg_setReg_ne _ _ hr, pAfter_advance _ _ _ rfl, rfl⟩
  · intro e he hv
    simpa [element, vectorSet, vectorWith, he, hv] using h e he hv
  · intro e he hv
    have : ¬e < s.vl.toNat := by omega
    simp [element, vectorSet, vectorWith, he, this]

theorem goesOn_next {s u : State} {n : Nat} (h : s.p = u.p) (hu : u = { s with p := u.p }) :
    goesOn (.next (advance n s)) u n :=
  ⟨_, rfl, pAfter_advance _ _ _ (by simp [advance, h]), by rw [hu]; rfl⟩

theorem jumpsTo_next (s : State) (target : BitVec 24) : jumpsTo (.next { s with p := target }) s target :=
  ⟨_, rfl, rfl, rfl⟩

/-- A privileged instruction in monitor mode is its effect, and elsewhere only goes on (60 R533, R534, log 11). -/
theorem privileged_monitor {s : State} (effect : Result) (h : s.modes.mm = true) : privileged s effect = effect := by
  simp [privileged, h]

theorem privileged_user {s : State} (effect : Result) (h : s.modes.mm = false) :
    privileged s effect = .next (advance 1 s) := by
  simp [privileged, h]

end Sys2Proof.Safety
end

