-- ==== Sys2Proof/Laws/Step.lean ====
section
/-! SUPPORT. The ways a step goes (70 R551, 60 R509, 30 R136, 40 R199), and what a fetch answers. -/

namespace Sys2Proof.Machine

theorem step_deadstart {s : State} (h : (environment s).running = false) : step s = deadstart (environment s) := by
  simp only [step, cycle, h, Bool.not_false, if_true]

theorem step_exchange {s : State} (h : (environment s).running = true)
    (hc : pendingCauses (environment s) ≠ Flags.none) (hs : stuck (environment s) = false) :
    step s = exchange (pendingCauses (environment s)) (environment s) := by
  simp only [step, cycle, h, Bool.not_true, Bool.false_eq_true, if_false]
  rw [if_pos ⟨hc, hs⟩]

theorem step_resume {s : State} (h : (environment s).running = true)
    (hc : pendingCauses (environment s) = Flags.none ∨ stuck (environment s) = true) :
    step s = resume (environment s) := by
  simp only [step, cycle, h, Bool.not_true, Bool.false_eq_true, if_false]
  rw [if_neg]
  rintro ⟨h1, h2⟩
  rcases hc with hc | hc
  · exact h1 hc
  · simp [hc] at h2

theorem resume_issue {s : State} (h : s.held = none) : resume s = issue s := by simp [resume, h]

theorem resume_hold {s : State} {n : Fin 32} (h : s.held = some n) : resume s = testAndSet n s := by simp [resume, h]

theorem step_issue {s : State} (h : (environment s).running = true) (hh : (environment s).held = none)
    (hc : pendingCauses (environment s) = Flags.none) : step s = issue (environment s) := by
  rw [step_resume h (Or.inl hc), resume_issue hh]

/-- The instruction a fetch answers is the one its parcels decode to (30 R136). -/
theorem fetchInstr_done {s : State} {i : Instr} (h : fetchInstr s = .done i) :
    ∃ p ps, fetchParcel s s.p = .done p ∧ unlistedFirst p = none ∧
      fetchParcels s (s.p + 1) (parcelCount p - 1) = .done ps ∧ decode (p :: ps) = .ok i := by
  obtain ⟨p, hp, h⟩ := andThen_done h
  split at h
  · cases h
  · next hu =>
    obtain ⟨ps, hps, h⟩ := andThen_done h
    split at h
    · next j hj =>
      cases h
      exact ⟨p, ps, hp, hu, hps, hj⟩
    · cases h

/-- A parcel in range, in memory and not stored into is fetched (20 R88, R108). -/
theorem fetchParcel_done {s : State} {q : BitVec 24} {w : Word}
    (hl : instructionWord s q < s.ila.toNat * blockWords) (hm : instructionWord s q < memWords s.sys)
    (hs : instructionWord s q ∉ s.ibufStored) (hw : readWord s.mem (instructionWord s q) = some w) :
    fetchParcel s q = .done (parcelOf w (q.toNat % 4)) := by
  unfold fetchParcel
  dsimp only
  rw [if_neg (by omega), if_neg (by omega), if_neg (by simpa using hs), hw]

/-- A parcel beyond the instruction limit is a program range error (20 R88). -/
theorem fetchParcel_rangeError {s : State} {q : BitVec 24}
    (hl : s.ila.toNat * blockWords ≤ instructionWord s q) : fetchParcel s q = .rangeError := by
  unfold fetchParcel
  dsimp only
  rw [if_pos hl]

end Sys2Proof.Machine
end

