-- ==== Sys2Proof/Tests/Slice0.lean ====
section
/-! SUPPORT. The author's tests: ill-formed terms refused, written words decoded, single steps checked against the worked
values of spec/95_test_vectors.md, and for each statement with hypotheses a state that meets them. -/

namespace Sys2Proof.Tests

set_option Elab.async false

open Sys2Proof.Machine Sys2Proof.Safety

/-! ## The smoke test of WellFormed: one ill-formed term for each check -/

theorem test_illFormed :
    (Instr.ca 0 0).wellFormed = false ∧ (Instr.aChanAddr 1 0).wellFormed = false ∧
      (Instr.aChanErr 1 0).wellFormed = false ∧ (Instr.smTestSet 0o40).wellFormed = false ∧
      (Instr.smClear 0o40).wellFormed = false ∧ (Instr.smSet 0o77).wellFormed = false ∧
      (Instr.sSignOf2 1 0).wellFormed = false ∧ (Instr.sToggleSign2 1 0).wellFormed = false ∧
      (Instr.sXnorSign2 1 0).wellFormed = false ∧ (Instr.sSetSign2 1 0).wellFormed = false := by
  decide

theorem test_wellFormed_boundary :
    (Instr.ca 0 1).wellFormed = true ∧ (Instr.ca 1 0).wellFormed = true ∧ (Instr.aChanAddr 1 7).wellFormed = true ∧
      (Instr.smTestSet 0o37).wellFormed = true ∧ (Instr.sSignOf2 1 1).wellFormed = true := by
  decide

/-! ## Decoding: the pattern of each row, in octal, with i, j, k = 1, 2, 3, h = 2, m = 0xABCD, exp = 0x12345678

A spelling's word decodes to the instruction it spells. -/

theorem test_decode_00 :
    decodeTableWord 16 0o000000 = some .err ∧
      decodeTableWord 16 0o001023 = some (.ca 2 3) ∧
      decodeTableWord 16 0o001000 = some .pass ∧
      decodeTableWord 16 0o001123 = some (.cl 2 3) ∧
      decodeTableWord 16 0o001220 = some (.ci 2) ∧
      decodeTableWord 16 0o001221 = some (.mc 2) ∧
      decodeTableWord 16 0o001320 = some (.xa 2) ∧
      decodeTableWord 16 0o001420 = some (.rt 2) ∧
      decodeTableWord 16 0o001421 = some (.sip 2) ∧
      decodeTableWord 16 0o001402 = some .cipi ∧
      decodeTableWord 16 0o001423 = some (.cln 2) ∧
      decodeTableWord 16 0o001424 = some (.pci 2) ∧
      decodeTableWord 16 0o001405 = some .cci ∧
      decodeTableWord 16 0o001406 = some .eci ∧
      decodeTableWord 16 0o001407 = some .dci ∧
      decodeTableWord 16 0o001520 = some (.selectPerf 2) ∧
      decodeTableWord 16 0o001501 = some .disablePortA ∧
      decodeTableWord 16 0o001511 = some .disablePortB ∧
      decodeTableWord 16 0o001521 = some .disablePortD ∧
      decodeTableWord 16 0o001541 = some .swapCheckBytes ∧
      decodeTableWord 16 0o001551 = some .replaceCheckBits ∧
      decodeTableWord 16 0o001621 = some (.ivc 2) ∧
      decodeTableWord 16 0o002003 = some (.setVl 3) ∧
      decodeTableWord 16 0o002100 = some .efi ∧
      decodeTableWord 16 0o002200 = some .dfi ∧
      decodeTableWord 16 0o002300 = some .eri ∧
      decodeTableWord 16 0o002400 = some .dri ∧
      decodeTableWord 16 0o002500 = some .dbm ∧
      decodeTableWord 16 0o002600 = some .ebm ∧
      decodeTableWord 16 0o002700 = some .cmr ∧
      decodeTableWord 16 0o003020 = some (.setVm 2) ∧
      decodeTableWord 16 0o003423 = some (.smTestSet 0o23) ∧
      decodeTableWord 16 0o003623 = some (.smClear 0o23) ∧
      decodeTableWord 16 0o003723 = some (.smSet 0o23) ∧
      decodeTableWord 16 0o004000 = some .ex ∧
      decodeTableWord 16 0o005023 = some (.jumpB 0o23) ∧
      decodeTableWord 32 (0o006123 + 0xABCD * 2 ^ 16) = some (.jump 0x53ABCD) ∧
      decodeTableWord 32 (0o007123 + 0xABCD * 2 ^ 16) = some (.returnJump 0x53ABCD) := by
  decide +kernel

theorem test_decode_01 :
    decodeTableWord 32 (0o010123 + 0xABCD * 2 ^ 16) = some (.jaz 0x53ABCD) ∧
      decodeTableWord 32 (0o011123 + 0xABCD * 2 ^ 16) = some (.jan 0x53ABCD) ∧
      decodeTableWord 32 (0o012123 + 0xABCD * 2 ^ 16) = some (.jap 0x53ABCD) ∧
      decodeTableWord 32 (0o013123 + 0xABCD * 2 ^ 16) = some (.jam 0x53ABCD) ∧
      decodeTableWord 32 (0o014123 + 0xABCD * 2 ^ 16) = some (.jsz 0x53ABCD) ∧
      decodeTableWord 32 (0o015123 + 0xABCD * 2 ^ 16) = some (.jsn 0x53ABCD) ∧
      decodeTableWord 32 (0o016123 + 0xABCD * 2 ^ 16) = some (.jsp 0x53ABCD) ∧
      decodeTableWord 32 (0o017123 + 0xABCD * 2 ^ 16) = some (.jsm 0x53ABCD) := by
  decide +kernel

theorem test_decode_02 :
    decodeTableWord 48 (0o020100 + 0x5678 * 2 ^ 16 + 0x1234 * 2 ^ 32) = some (.aExp 1 0x12345678) ∧
      decodeTableWord 48 (0o021100 + 0x5678 * 2 ^ 16 + 0x1234 * 2 ^ 32) = some (.aExpNot 1 0x12345678) ∧
      decodeTableWord 16 0o022123 = some (.aShort 1 0o23) ∧
      decodeTableWord 16 0o023120 = some (.aFromS 1 2) ∧
      decodeTableWord 16 0o023101 = some (.aFromVl 1) ∧
      decodeTableWord 16 0o024123 = some (.aFromB 1 0o23) ∧
      decodeTableWord 16 0o025123 = some (.bFromA 1 0o23) ∧
      decodeTableWord 16 0o026120 = some (.aPop 1 2) ∧
      decodeTableWord 16 0o026121 = some (.aParity 1 2) ∧
      decodeTableWord 16 0o026127 = some (.aFromSb 1 2) ∧
      decodeTableWord 16 0o027120 = some (.aLzc 1 2) ∧
      decodeTableWord 16 0o027127 = some (.sbFromA 1 2) := by
  decide +kernel

theorem test_decode_03 :
    decodeTableWord 16 0o030123 = some (.aAdd 1 2 3) ∧
      decodeTableWord 16 0o031123 = some (.aSub 1 2 3) ∧
      decodeTableWord 16 0o032123 = some (.aMul 1 2 3) ∧
      decodeTableWord 16 0o033100 = some (.aChanInt 1) ∧
      decodeTableWord 16 0o033120 = some (.aChanAddr 1 2) ∧
      decodeTableWord 16 0o033121 = some (.aChanErr 1 2) ∧
      decodeTableWord 16 0o034123 = some (.loadB 1 0o23) ∧
      decodeTableWord 16 0o035123 = some (.storeB 1 0o23) ∧
      decodeTableWord 16 0o036123 = some (.loadT 1 0o23) ∧
      decodeTableWord 16 0o037123 = some (.storeT 1 0o23) := by
  decide +kernel

theorem test_decode_04 :
    decodeTableWord 48 (0o040100 + 0x5678 * 2 ^ 16 + 0x1234 * 2 ^ 32) = some (.sExp 1 0x12345678) ∧
      decodeTableWord 48 (0o041100 + 0x5678 * 2 ^ 16 + 0x1234 * 2 ^ 32) = some (.sExpNot 1 0x12345678) ∧
      decodeTableWord 16 0o042123 = some (.sMaskRight 1 0o23) ∧
      decodeTableWord 16 0o043123 = some (.sMaskLeft 1 0o23) ∧
      decodeTableWord 16 0o044123 = some (.sAnd 1 2 3) ∧
      decodeTableWord 16 0o045123 = some (.sAndNot 1 2 3) ∧
      decodeTableWord 16 0o046123 = some (.sXor 1 2 3) ∧
      decodeTableWord 16 0o047123 = some (.sXnor 1 2 3) := by
  decide +kernel

theorem test_decode_05 :
    decodeTableWord 16 0o050123 = some (.sMerge 1 2 3) ∧
      decodeTableWord 16 0o051123 = some (.sOr 1 2 3) ∧
      decodeTableWord 16 0o052123 = some (.s0ShiftLeft 1 0o23) ∧
      decodeTableWord 16 0o053123 = some (.s0ShiftRight 1 0o23) ∧
      decodeTableWord 16 0o054123 = some (.sShiftLeft 1 0o23) ∧
      decodeTableWord 16 0o055123 = some (.sShiftRight 1 0o23) ∧
      decodeTableWord 16 0o056123 = some (.sDoubleLeft 1 2 3) ∧
      decodeTableWord 16 0o057123 = some (.sDoubleRight 1 2 3) := by
  decide +kernel

theorem test_decode_06 :
    decodeTableWord 16 0o060123 = some (.sAdd 1 2 3) ∧
      decodeTableWord 16 0o061123 = some (.sSub 1 2 3) ∧
      decodeTableWord 16 0o062123 = some (.sFadd 1 2 3) ∧
      decodeTableWord 16 0o063123 = some (.sFsub 1 2 3) ∧
      decodeTableWord 16 0o064123 = some (.sFmul 1 2 3) ∧
      decodeTableWord 16 0o065123 = some (.sFmulH 1 2 3) ∧
      decodeTableWord 16 0o066123 = some (.sFmulR 1 2 3) ∧
      decodeTableWord 16 0o067123 = some (.sRecipIter 1 2 3) := by
  decide +kernel

theorem test_decode_07 :
    decodeTableWord 16 0o070120 = some (.sRecip 1 2) ∧
      decodeTableWord 16 0o071103 = some (.sFromA 1 3) ∧
      decodeTableWord 16 0o071113 = some (.sFromASigned 1 3) ∧
      decodeTableWord 16 0o071123 = some (.sFloatFromA 1 3) ∧
      decodeTableWord 16 0o071130 = some (.sThreeQuarters 1) ∧
      decodeTableWord 16 0o071140 = some (.sHalf 1) ∧
      decodeTableWord 16 0o071150 = some (.sOne 1) ∧
      decodeTableWord 16 0o071160 = some (.sTwo 1) ∧
      decodeTableWord 16 0o071170 = some (.sFour 1) ∧
      decodeTableWord 16 0o072100 = some (.sFromRt 1) ∧
      decodeTableWord 16 0o072102 = some (.sFromSm 1) ∧
      decodeTableWord 16 0o072123 = some (.sFromSt 1 2) ∧
      decodeTableWord 16 0o073100 = some (.sFromVm 1) ∧
      decodeTableWord 16 0o073101 = some (.sFromSr0 1) ∧
      decodeTableWord 16 0o073102 = some (.smFromS 1) ∧
      decodeTableWord 16 0o073123 = some (.stFromS 1 2) ∧
      decodeTableWord 16 0o073111 = some (.readPerf 1) ∧
      decodeTableWord 16 0o073121 = some (.incPerfUpper 1) ∧
      decodeTableWord 16 0o073131 = some (.clearMaint 1) ∧
      decodeTableWord 16 0o073161 = some (.incPerfLower 1) ∧
      decodeTableWord 16 0o074123 = some (.sFromT 1 0o23) ∧
      decodeTableWord 16 0o075123 = some (.tFromS 1 0o23) ∧
      decodeTableWord 16 0o076123 = some (.sFromV 1 2 3) ∧
      decodeTableWord 16 0o077123 = some (.vFromS 1 2 3) := by
  decide +kernel

theorem test_decode_10 :
    decodeTableWord 48 (0o102100 + 0x5678 * 2 ^ 16 + 0x1234 * 2 ^ 32) = some (.loadA 2 1 0x12345678) := by
  decide +kernel

theorem test_decode_11 :
    decodeTableWord 48 (0o112100 + 0x5678 * 2 ^ 16 + 0x1234 * 2 ^ 32) = some (.storeA 2 1 0x12345678) := by
  decide +kernel

theorem test_decode_12 :
    decodeTableWord 48 (0o122100 + 0x5678 * 2 ^ 16 + 0x1234 * 2 ^ 32) = some (.loadS 2 1 0x12345678) := by
  decide +kernel

theorem test_decode_13 :
    decodeTableWord 48 (0o132100 + 0x5678 * 2 ^ 16 + 0x1234 * 2 ^ 32) = some (.storeS 2 1 0x12345678) := by
  decide +kernel

theorem test_decode_14 :
    decodeTableWord 16 0o140123 = some (.vsAnd 1 2 3) ∧
      decodeTableWord 16 0o141123 = some (.vvAnd 1 2 3) ∧
      decodeTableWord 16 0o142123 = some (.vsOr 1 2 3) ∧
      decodeTableWord 16 0o143123 = some (.vvOr 1 2 3) ∧
      decodeTableWord 16 0o144123 = some (.vsXor 1 2 3) ∧
      decodeTableWord 16 0o145123 = some (.vvXor 1 2 3) ∧
      decodeTableWord 16 0o146123 = some (.vsMerge 1 2 3) ∧
      decodeTableWord 16 0o147123 = some (.vvMerge 1 2 3) := by
  decide +kernel

theorem test_decode_15 :
    decodeTableWord 16 0o150123 = some (.vShiftLeft 1 2 3) ∧
      decodeTableWord 16 0o151123 = some (.vShiftRight 1 2 3) ∧
      decodeTableWord 16 0o152123 = some (.vDoubleLeft 1 2 3) ∧
      decodeTableWord 16 0o153123 = some (.vDoubleRight 1 2 3) ∧
      decodeTableWord 16 0o154123 = some (.vsAdd 1 2 3) ∧
      decodeTableWord 16 0o155123 = some (.vvAdd 1 2 3) ∧
      decodeTableWord 16 0o156123 = some (.vsSub 1 2 3) ∧
      decodeTableWord 16 0o157123 = some (.vvSub 1 2 3) := by
  decide +kernel

theorem test_decode_16 :
    decodeTableWord 16 0o160123 = some (.vsFmul 1 2 3) ∧
      decodeTableWord 16 0o161123 = some (.vvFmul 1 2 3) ∧
      decodeTableWord 16 0o162123 = some (.vsFmulH 1 2 3) ∧
      decodeTableWord 16 0o163123 = some (.vvFmulH 1 2 3) ∧
      decodeTableWord 16 0o164123 = some (.vsFmulR 1 2 3) ∧
      decodeTableWord 16 0o165123 = some (.vvFmulR 1 2 3) ∧
      decodeTableWord 16 0o166123 = some (.vsImul32 1 2 3) ∧
      decodeTableWord 16 0o167123 = some (.vvRecipIter 1 2 3) := by
  decide +kernel

theorem test_decode_17 :
    decodeTableWord 16 0o170123 = some (.vsFadd 1 2 3) ∧
      decodeTableWord 16 0o171123 = some (.vvFadd 1 2 3) ∧
      decodeTableWord 16 0o172123 = some (.vsFsub 1 2 3) ∧
      decodeTableWord 16 0o173123 = some (.vvFsub 1 2 3) ∧
      decodeTableWord 16 0o174120 = some (.vRecip 1 2) ∧
      decodeTableWord 16 0o174121 = some (.vPop 1 2) ∧
      decodeTableWord 16 0o174122 = some (.vParity 1 2) ∧
      decodeTableWord 16 0o175020 = some (.vmZero 2) ∧
      decodeTableWord 16 0o175021 = some (.vmNonzero 2) ∧
      decodeTableWord 16 0o175022 = some (.vmPlus 2) ∧
      decodeTableWord 16 0o175023 = some (.vmMinus 2) ∧
      decodeTableWord 16 0o175124 = some (.vmZeroIdx 1 2) ∧
      decodeTableWord 16 0o175125 = some (.vmNonzeroIdx 1 2) ∧
      decodeTableWord 16 0o175126 = some (.vmPlusIdx 1 2) ∧
      decodeTableWord 16 0o175127 = some (.vmMinusIdx 1 2) ∧
      decodeTableWord 16 0o176103 = some (.vLoad 1 3) ∧
      decodeTableWord 16 0o176113 = some (.vGather 1 3) ∧
      decodeTableWord 16 0o177023 = some (.vStore 2 3) ∧
      decodeTableWord 16 0o177123 = some (.vScatter 2 3) := by
  decide +kernel

theorem test_decode_spelling_0 :
    decodeTableWord 16 0o001401 = some (.sip 0) ∧
      decodeTableWord 16 0o002000 = some (.setVl 0) ∧
      decodeTableWord 16 0o003000 = some (.setVm 0) ∧
      decodeTableWord 16 0o030103 = some (.aAdd 1 0 3) ∧
      decodeTableWord 16 0o030120 = some (.aAdd 1 2 0) ∧
      decodeTableWord 16 0o031100 = some (.aSub 1 0 0) ∧
      decodeTableWord 16 0o031103 = some (.aSub 1 0 3) ∧
      decodeTableWord 16 0o031120 = some (.aSub 1 2 0) ∧
      decodeTableWord 16 0o034123 = some (.loadB 1 0o23) ∧
      decodeTableWord 16 0o035123 = some (.storeB 1 0o23) ∧
      decodeTableWord 16 0o036123 = some (.loadT 1 0o23) ∧
      decodeTableWord 16 0o037123 = some (.storeT 1 0o23) ∧
      decodeTableWord 16 0o042123 = some (.sMaskRight 1 0o23) ∧
      decodeTableWord 16 0o042177 = some (.sMaskRight 1 63) ∧
      decodeTableWord 16 0o042100 = some (.sMaskRight 1 0) ∧
      decodeTableWord 16 0o043123 = some (.sMaskLeft 1 0o23) ∧
      decodeTableWord 16 0o043100 = some (.sMaskLeft 1 0) ∧
      decodeTableWord 16 0o044120 = some (.sAnd 1 2 0) ∧
      decodeTableWord 16 0o044120 = some (.sAnd 1 2 0) ∧
      decodeTableWord 16 0o045120 = some (.sAndNot 1 2 0) ∧
      decodeTableWord 16 0o046120 = some (.sXor 1 2 0) ∧
      decodeTableWord 16 0o046120 = some (.sXor 1 2 0) ∧
      decodeTableWord 16 0o047103 = some (.sXnor 1 0 3) ∧
      decodeTableWord 16 0o047120 = some (.sXnor 1 2 0) ∧
      decodeTableWord 16 0o047120 = some (.sXnor 1 2 0) ∧
      decodeTableWord 16 0o047100 = some (.sXnor 1 0 0) ∧
      decodeTableWord 16 0o050120 = some (.sMerge 1 2 0) ∧
      decodeTableWord 16 0o051103 = some (.sOr 1 0 3) ∧
      decodeTableWord 16 0o051120 = some (.sOr 1 2 0) ∧
      decodeTableWord 16 0o051120 = some (.sOr 1 2 0) ∧
      decodeTableWord 16 0o051100 = some (.sOr 1 0 0) ∧
      decodeTableWord 16 0o056120 = some (.sDoubleLeft 1 2 0) ∧
      decodeTableWord 16 0o056103 = some (.sDoubleLeft 1 0 3) ∧
      decodeTableWord 16 0o057120 = some (.sDoubleRight 1 2 0) ∧
      decodeTableWord 16 0o057103 = some (.sDoubleRight 1 0 3) ∧
      decodeTableWord 16 0o061103 = some (.sSub 1 0 3) ∧
      decodeTableWord 16 0o062103 = some (.sFadd 1 0 3) ∧
      decodeTableWord 16 0o063103 = some (.sFsub 1 0 3) ∧
      decodeTableWord 16 0o077103 = some (.vFromS 1 0 3) := by
  decide +kernel

theorem test_decode_spelling_1 :
    decodeTableWord 48 (0o100100 + 0x5678 * 2 ^ 16 + 0x1234 * 2 ^ 32) = some (.loadA 0 1 0x12345678) ∧
      decodeTableWord 48 (0o100100 + 0x5678 * 2 ^ 16 + 0x1234 * 2 ^ 32) = some (.loadA 0 1 0x12345678) ∧
      decodeTableWord 48 0o102100 = some (.loadA 2 1 0) ∧
      decodeTableWord 48 (0o110100 + 0x5678 * 2 ^ 16 + 0x1234 * 2 ^ 32) = some (.storeA 0 1 0x12345678) ∧
      decodeTableWord 48 (0o110100 + 0x5678 * 2 ^ 16 + 0x1234 * 2 ^ 32) = some (.storeA 0 1 0x12345678) ∧
      decodeTableWord 48 0o112100 = some (.storeA 2 1 0) ∧
      decodeTableWord 48 (0o120100 + 0x5678 * 2 ^ 16 + 0x1234 * 2 ^ 32) = some (.loadS 0 1 0x12345678) ∧
      decodeTableWord 48 (0o120100 + 0x5678 * 2 ^ 16 + 0x1234 * 2 ^ 32) = some (.loadS 0 1 0x12345678) ∧
      decodeTableWord 48 0o122100 = some (.loadS 2 1 0) ∧
      decodeTableWord 48 (0o130100 + 0x5678 * 2 ^ 16 + 0x1234 * 2 ^ 32) = some (.storeS 0 1 0x12345678) ∧
      decodeTableWord 48 (0o130100 + 0x5678 * 2 ^ 16 + 0x1234 * 2 ^ 32) = some (.storeS 0 1 0x12345678) ∧
      decodeTableWord 48 0o132100 = some (.storeS 2 1 0) ∧
      decodeTableWord 16 0o142103 = some (.vsOr 1 0 3) ∧
      decodeTableWord 16 0o145111 = some (.vvXor 1 1 1) ∧
      decodeTableWord 16 0o146103 = some (.vsMerge 1 0 3) ∧
      decodeTableWord 16 0o150120 = some (.vShiftLeft 1 2 0) ∧
      decodeTableWord 16 0o151120 = some (.vShiftRight 1 2 0) ∧
      decodeTableWord 16 0o152120 = some (.vDoubleLeft 1 2 0) ∧
      decodeTableWord 16 0o153120 = some (.vDoubleRight 1 2 0) ∧
      decodeTableWord 16 0o156103 = some (.vsSub 1 0 3) ∧
      decodeTableWord 16 0o170103 = some (.vsFadd 1 0 3) ∧
      decodeTableWord 16 0o172103 = some (.vsFsub 1 0 3) ∧
      decodeTableWord 16 0o176100 = some (.vLoad 1 0) ∧
      decodeTableWord 16 0o177020 = some (.vStore 2 0) := by
  decide +kernel

/-- Words the spec names as no instruction (30 R123, R124, R129, 40 R199, 42 R257, 44 R337). -/
theorem test_decode_refused :
    decodeTableWord 16 0o000001 = none ∧ decodeTableWord 16 0o001232 = none ∧ decodeTableWord 16 0o002010 = none ∧
      decodeTableWord 16 0o003440 = none ∧ decodeTableWord 16 0o004001 = none ∧ decodeTableWord 16 0o005100 = none ∧
      decodeTableWord 32 0o006400 = none ∧ decodeTableWord 48 0o020101 = none ∧ decodeTableWord 16 0o023111 = none ∧
      decodeTableWord 16 0o033101 = none ∧ decodeTableWord 16 0o070121 = none ∧ decodeTableWord 16 0o071171 = none ∧
      decodeTableWord 16 0o072110 = none ∧ decodeTableWord 48 0o102101 = none ∧ decodeTableWord 16 0o174123 = none ∧
      decodeTableWord 16 0o175120 = none ∧ decodeTableWord 16 0o176120 = none := by
  decide +kernel

/-! ## Single steps, with the values of spec/95_test_vectors.md, sections 2.1 to 2.10 -/

/-- The start state of the vectors: user mode, IOR set, CLN 1, VL 64, the limits open. -/
def start : State :=
  { State.reset with
    running := true, iba := 0x3000, ila := 0x3FFFFF, dla := 0x3FFFFF, cln := 1, vl := 64
    modes := { State.reset.modes with mm := false, ior := true } }

/-- The ends of each row of Table 5: CPUs, and Mwords of the four kinds of memory module (20 R81). -/
theorem test_20_sizes :
    let row (b : Backplane) : Nat × List Nat :=
      (ncpu ⟨b, .mem16, 0⟩,
        [MemoryModule.mem16, .mem32, .mem64, .mem128].map fun m => memWords ⟨b, m, 0⟩ / 2 ^ 20)
    [Backplane.twoByTwo 0, .twoByTwo 1, .fourByFour 0, .fourByFour 3, .eightByEight 0, .eightByEight 4].map row =
      [(4, [32, 64, 128, 256]), (8, [32, 64, 128, 256]), (4, [64, 128, 256, 512]), (16, [64, 128, 256, 512]),
        (16, [128, 256, 512, 1024]), (32, [128, 256, 512, 1024])] := by
  decide +kernel

/-- The start state of section 2.9: monitor mode. -/
def monitor : State := { start with modes := { start.modes with mm := true } }

def setA (s : State) (i : BitVec 3) (x : AWord) : State := { s with a := setReg s.a i x }
def setS (s : State) (i : BitVec 3) (x : Word) : State := { s with s := setReg s.s i x }
def setV (s : State) (i : BitVec 3) (xs : List Word) : State :=
  { s with v := setReg s.v i (Vector.ofFn fun e => xs.getD e.val 0) }
def setMem (s : State) (a : Nat) (w : Word) : State := { s with mem := writeWord s.mem a w }
def setChan (s : State) (n : Fin 64) (c : Channel) : State := { s with chans := s.chans.set n.val c n.isLt }
def setSm (s : State) (n : Fin 32) : State :=
  { s with clusters := applyShared s.clusters (.semaphore ⟨0, by decide⟩ n true) }

/-- What a decoded instruction leaves, seen through f; nothing where it does not go on. -/
def after {α : Type} (parcels : List Parcel) (s : State) (f : State → α) : Option α :=
  match decode parcels with
  | .ok i =>
    match exec i s with
    | .next t => some (f t)
    | _ => none
  | .error _ => none

/-- Elements 0 and 1 of V1. -/
def v1 (t : State) : Word × Word := (element t 1 0, element t 1 1)

theorem test_40_channels :
    after [0x0213] (setA (setA monitor 2 0o20) 3 0x4000) (fun t => (t.chans[0].ca, t.chans[0].active)) =
        some (0x4000, true) ∧
      after [0x0203] (setA monitor 3 0x4000) (fun t => t.p) = none ∧
      after [0x0253] (setA (setA monitor 2 0o20) 3 0x4100) (fun t => (t.chans[0].cl, t.chans[0].active)) =
        some (0x4100, false) ∧
      after [0x0298] (setA (setChan monitor 1 { Channel.idle with int := true, err := true, masterClear := true }) 3 0o21)
        (fun t => t.chans[1]) = some Channel.idle ∧
      after [0x0299] (setA (setChan monitor 0 { Channel.idle with int := true, readyHeld := true }) 3 0o20)
        (fun t => t.chans[0]) = some Channel.idle ∧
      after [0x0299] (setA monitor 3 0o21) (fun t => t.chans[1].masterClear) = some true := by
  decide +kernel

theorem test_40_monitor :
    after [0x02D0] (setA monitor 2 0x300) (fun t => t.xa) = some 0x30 ∧
      after [0x02D0] (setA start 2 0x300) (fun t => (t.xa, t.p)) = some (0, 1) ∧
      after [0x0318] (setS monitor 3 1000) (fun t => t.rtc) = some 1000 ∧
      after [0x0311] (setA monitor 2 5) (fun t => t.ipiPending) = some 0x20 ∧
      after [0x0311] (setA monitor 2 32) (fun t => t.p) = none ∧
      after [0x0301] monitor (fun t => t.ipiPending) = some 1 ∧
      after [0x0302] { monitor with ipiPending := 1 } (fun t => t.ipiPending) = some 0 ∧
      after [0x0313] (setA monitor 2 0x43) (fun t => t.cln) = some 3 ∧
      after [0x031C] (setS monitor 3 100000) (fun t => t.ii) = some 100000 ∧
      after [0x0305] { monitor with pciRequest := true } (fun t => t.pciRequest) = some false ∧
      after [0x0306] monitor (fun t => t.pciEnable) = some true ∧
      after [0x0307] { monitor with pciEnable := true, pciRequest := true } (fun t => (t.pciEnable, t.pciRequest)) =
        some (false, true) ∧
      after [0x0341] monitor (fun t => t.p) = none ∧
      after [0x0391] (setA start 2 1) (fun t => t.ivcPending) = some 2 := by
  decide +kernel

theorem test_40_modes :
    after [0x0200] { start with p := 7 } (fun t => t.p) = some 8 ∧
      after [0x0403] (setA start 3 0xA) (fun t => t.vl) = some 0xA ∧
      after [0x0403] (setA start 3 0) (fun t => t.vl) = some 64 ∧ after [0x0400] start (fun t => t.vl) = some 1 ∧
      after [0x0440] start (fun t => t.modes.ifp) = some true ∧
      after [0x0500] start (fun t => t.modes.ior) = some false ∧
      after [0x0580] start (fun t => t.modes.bdm) = some true ∧
      after [0x05C0] { start with pending := [(4, 7)] } (fun t => (readWord t.mem 4, t.pending)) = some (some 7, []) ∧
      after [0x0610] (setS start 2 0xF000000000000000) (fun t => t.vm) = some 0xF000000000000000 ∧
      after [0x0600] { start with vm := 5 } (fun t => t.vm) = some 0 := by
  decide +kernel

theorem test_40_semaphores :
    after [0x0705] start (fun t => (t.clusters[0].sm, t.ws, t.p)) = some (0x20, false, 1) ∧
      after [0x0705] { setSm start 5 with peers := start.peers.set 1 { mm := false, sei := false, ws := false, cln := 1 } }
        (fun t => (t.clusters[0].sm, t.ws, t.p)) = some (0x20, true, 0) ∧
      after [0x0785] (setSm start 5) (fun t => (t.clusters[0].sm, (deliverAll t).clusters[0].sm)) = some (0x20, 0) ∧
      after [0x07DF] start (fun t => (deliverAll t).clusters[0].sm) = some 0x80000000 ∧
      after [0x0785] { start with cln := 0 } (fun t => t.p) = none := by
  decide +kernel

theorem test_41_branches :
    after [0x0A0A] { start with b := start.b.set 0o12 0xAB123456 } (fun t => t.p) = some 0x123456 ∧
      after [0x0C01, 0x2345] start (fun t => t.p) = some 0x12345 ∧
      after [0x0E00, 0x0400] { start with p := 0xFFFFFE } (fun t => (t.p, t.b[0])) = some (0x400, 0) ∧
      after [0x1000, 0x0040] start (fun t => t.p) = some 0x40 ∧
      after [0x1200, 0x0010] { start with p := 0x10 } (fun t => t.p) = some 0x12 ∧
      after [0x1400, 0x0100] (setA start 0 0x80000000) (fun t => t.p) = some 2 ∧
      after [0x1600, 0x0100] (setA start 0 0xFFFFFFFF) (fun t => t.p) = some 0x100 ∧
      after [0x1800, 0x0200] (setS start 0 0x8000000000000000) (fun t => t.p) = some 2 ∧
      after [0x1A00, 0x0200] (setS start 0 0x8000000000000000) (fun t => t.p) = some 0x200 ∧
      after [0x1C00, 0x0200] start (fun t => t.p) = some 0x200 ∧
      after [0x1E00, 0x0200] (setS { start with p := 4 } 0 1) (fun t => t.p) = some 6 ∧
      after [0x107F, 0xFFFF] start (fun t => t.p) = some 0x7FFFFF := by
  decide +kernel

theorem test_42_transfers :
    after [0x2040, 0x5678, 0x1234] start (fun t => (reg t.a 1, t.p)) = some (0x12345678, 3) ∧
      after [0x2240, 1, 0] start (fun t => reg t.a 1) = some 0xFFFFFFFE ∧
      after [0x243F] start (fun t => reg t.a 0) = some 0x3F ∧
      after [0x2650] (setS start 2 0x1122334455667788) (fun t => reg t.a 1) = some 0x55667788 ∧
      after [0x2641] start (fun t => reg t.a 1) = some 64 ∧
      after [0x284F] { start with b := start.b.set 0o17 7 } (fun t => reg t.a 1) = some 7 ∧
      after [0x2A4F] (setA start 1 7) (fun t => t.b[0o17]) = some 7 ∧
      after [0x2C50] (setS start 2 0xF0F0) (fun t => reg t.a 1) = some 8 ∧
      after [0x2C51] (setS start 2 7) (fun t => reg t.a 1) = some 1 ∧
      after [0x2E50] (setS start 2 1) (fun t => reg t.a 1) = some 63 ∧
      after [0x2E40] start (fun t => reg t.a 1) = some 64 ∧
      after [0x2E5F] (setA start 1 0x10) (fun t => reg (deliverAll t).clusters[0].sb 3) = some 0x10 ∧
      after [0x2C5F] { start with sharedQueue := [.sb ⟨0, by decide⟩ 3 0x10] } (fun t => reg t.a 1) = some 0x10 := by
  decide +kernel

theorem test_42_arithmetic :
    after [0x3053] (setA (setA start 2 0xFFFFFFFF) 3 1) (fun t => reg t.a 1) = some 0 ∧
      after [0x3040] start (fun t => reg t.a 1) = some 1 ∧
      after [0x3253] (setA (setA start 2 5) 3 7) (fun t => reg t.a 1) = some 0xFFFFFFFE ∧
      after [0x3243] (setA start 3 0x80000000) (fun t => reg t.a 1) = some 0x80000000 ∧
      after [0x3453] (setA (setA start 2 0xFFFFFFFF) 3 0xFFFFFFFF) (fun t => reg t.a 1) = some 1 ∧
      after [0x3640] (setChan (setChan start 2 { Channel.idle with int := true }) 4 { Channel.idle with int := true })
        (fun t => reg t.a 1) = some 0o22 ∧
      after [0x3650] (setA (setChan start 0 { Channel.idle with ca := 0x4010 }) 2 0o20) (fun t => reg t.a 1) =
        some 0x4010 ∧
      after [0x3651] (setA (setChan start 0 { Channel.idle with err := true }) 2 0o20) (fun t => reg t.a 1) = some 1 := by
  decide +kernel

theorem test_42_blocks :
    after [0x38BF] (setA (setA (setMem (setMem start 0x100 0x500000001) 0x101 2) 0 0x100) 2 2)
        (fun t => (t.b[63], t.b[0])) = some (1, 2) ∧
      after [0x3810] (setA (setMem (setMem start 2 5) 3 6) 0 2) (fun t => (t.b[0o20], t.b[0o21])) = some (5, 6) ∧
      after [0x3890] (setA start 2 0x41) (fun t => t.p) = none ∧
      after [0x3A80] (setA (setA { start with b := (start.b.set 0 0x42).set 1 5 } 0 0x200) 2 2)
        (fun t => (wordAt t 0x200, wordAt t 0x201)) = some (some 0x42, some 5) ∧
      after [0x3C80] (setA (setA (setMem start 0x100 0xAAAA000000000001) 0 0x100) 2 1) (fun t => t.t[0]) =
        some 0xAAAA000000000001 ∧
      after [0x3EBF] (setA (setA { start with t := start.t.set 63 9 } 0 0x300) 2 1) (fun t => wordAt t 0x300) =
        some (some 9) := by
  decide +kernel

theorem test_43_logical :
    after [0x4240, 1, 0] start (fun t => reg t.s 1) = some 0xFFFFFFFFFFFFFFFE ∧
      after [0x4040, 0x5678, 0x1234] start (fun t => reg t.s 1) = some 0x12345678 ∧
      after [0x4474] start (fun t => reg t.s 1) = some 0xFFF ∧
      after [0x4644] start (fun t => reg t.s 1) = some 0xF000000000000000 ∧
      after [0x4853] (setS (setS start 2 0xFF00) 3 0xFF0) (fun t => reg t.s 1) = some 0xF00 ∧
      after [0x4A53] (setS (setS start 2 0xFF00) 3 0xFF0) (fun t => reg t.s 1) = some 0xF000 ∧
      after [0x4C53] (setS (setS start 2 0xFF00) 3 0xFF0) (fun t => reg t.s 1) = some 0xF0F0 ∧
      after [0x4E40] start (fun t => reg t.s 1) = some 0x7FFFFFFFFFFFFFFF ∧
      after [0x5053] (setS (setS (setS start 1 0xAAAA) 2 0x5555) 3 0xFF) (fun t => reg t.s 1) = some 0xAA55 ∧
      after [0x5253] (setS (setS start 2 0xFF00) 3 0xFF0) (fun t => reg t.s 1) = some 0xFFF0 := by
  decide +kernel

theorem test_43_shifts :
    after [0x547F] (setS start 1 3) (fun t => reg t.s 0) = some 0x8000000000000000 ∧
      after [0x5640] (setS (setS start 1 0xFFFFFFFFFFFFFFFF) 0 5) (fun t => reg t.s 0) = some 0 ∧
      after [0x5841] (setS start 1 3) (fun t => reg t.s 1) = some 6 ∧
      after [0x5A7F] (setS start 1 0xFFFFFFFFFFFFFFFF) (fun t => reg t.s 1) = some 0x7FFFFFFFFFFFFFFF ∧
      after [0x5C53] (setA (setS (setS start 1 1) 2 0xABCD) 3 0x44) (fun t => reg t.s 1) = some 0xABCD0 ∧
      after [0x5C4B] (setA (setS start 1 0x8000000000000001) 3 1) (fun t => reg t.s 1) = some 3 ∧
      after [0x5E53] (setA (setS (setS start 1 2) 2 1) 3 1) (fun t => reg t.s 1) = some 0x8000000000000001 ∧
      after [0x6050] (setS start 2 0x8000000000000000) (fun t => reg t.s 1) = some 0 ∧
      after [0x6253] (setS (setS start 2 5) 3 7) (fun t => reg t.s 1) = some 0xFFFFFFFFFFFFFFFE := by
  decide +kernel

theorem test_44_transfers :
    after [0x7243] (setA start 3 0xFFFFFFFE) (fun t => reg t.s 1) = some 0xFFFFFFFE ∧
      after [0x724B] (setA start 3 0xFFFFFFFE) (fun t => reg t.s 1) = some 0xFFFFFFFFFFFFFFFE ∧
      after [0x7253] (setA start 3 0xFFFFFFFB) (fun t => reg t.s 1) = some 0xC030000000000005 ∧
      after [0x7258] start (fun t => reg t.s 1) = some 0x4030C00000000000 ∧
      after [0x7260] start (fun t => reg t.s 1) = some 0x4000800000000000 ∧
      after [0x7268] start (fun t => reg t.s 1) = some 0x4001800000000000 ∧
      after [0x7270] start (fun t => reg t.s 1) = some 0x4002800000000000 ∧
      after [0x7278] start (fun t => reg t.s 1) = some 0x4003800000000000 ∧
      after [0x7640] { start with vm := 9 } (fun t => reg t.s 1) = some 9 ∧
      after [0x7440] { start with rtc := 77 } (fun t => reg t.s 1) = some 77 ∧
      after [0x784F] { start with t := start.t.set 0o17 9 } (fun t => reg t.s 1) = some 9 ∧
      after [0x7A4F] (setS start 1 9) (fun t => t.t[0o17]) = some 9 ∧
      after [0x7C53] (setA (setV start 2 [0, 0, 0, 0x4D]) 3 0x43) (fun t => reg t.s 1) = some 0x4D ∧
      after [0x7E53] (setA (setS start 2 0x4D) 3 3) (fun t => element t 1 3) = some 0x4D := by
  decide +kernel

theorem test_44_shared :
    after [0x7442] (setSm start 5) (fun t => reg t.s 1) = some 0x0400000000000000 ∧
      after [0x7642] (setS start 1 0x0400000000000000) (fun t => (deliverAll t).clusters[0].sm) = some 0x20 ∧
      after [0x7653] (setS start 1 7) (fun t => reg (deliverAll t).clusters[0].st 2) = some 7 ∧
      after [0x7453] { start with sharedQueue := [.st ⟨0, by decide⟩ 2 7] } (fun t => reg t.s 1) = some 7 := by
  decide +kernel

/-- The floating-point results are the configuration functions of the operands read (44 R330, R331, R337, 47 R457). -/
theorem test_float_functions (s : State) :
    exec (.sFadd 1 2 3) s =
        floatS 1 (Config.fadd (reg s.s 2) (reg s.s 3)) (Config.fpError .fadd (reg s.s 2) (reg s.s 3)) s ∧
      exec (.sRecip 1 0) s = floatS 1 (Config.frecipApprox 0) (Config.fpError .frecipApprox 0 0) s ∧
      exec (.vsImul32 1 2 3) s = finishV 1 (fun e => Config.imul32 (reg s.s 2) (element s 3 e)) s :=
  ⟨rfl, rfl, rfl⟩

theorem test_45_memory :
    after [0x8440, 4, 0] (setA (setMem start 0x1004 0x100000007) 2 0x1000) (fun t => (reg t.a 1, t.p)) = some (7, 3) ∧
      after [0x9440, 0xFFFF, 0xFFFF] (setA (setA start 2 0x1000) 1 0xFFFFFFFF) (fun t => wordAt t 0xFFF) =
        some (some 0xFFFFFFFF) ∧
      after [0xA440, 0, 0] (setA (setMem start 0x1000 0x4001800000000000) 2 0x1000) (fun t => reg t.s 1) =
        some 0x4001800000000000 ∧
      after [0xB040, 0x2000, 0] (setS start 1 0x123456789ABCDEF) (fun t => wordAt t 0x2000) =
        some (some 0x123456789ABCDEF) ∧
      after [0x8440, 0, 0] { setA (setMem start 0xC04 9) 2 4 with dba := 3, dla := 4 } (fun t => reg t.a 1) = some 9 ∧
      after [0x8240, 0, 0] (setA (setMem start 0x10 0xFFFFFFFF00000005) 1 0x10) (fun t => reg t.a 1) = some 5 := by
  decide +kernel

/-- A cached word is read, a store goes through the cache, and a vector store drops the line (20 R100, R101). -/
theorem test_20_cache :
    after [0xA440, 0, 0] (setA { setMem start 0x100 9 with ce := true, cache := [(0x100, 5)] } 2 0x100)
        (fun t => reg t.s 1) = some 5 ∧
      after [0xB440, 0, 0] (setA (setS { start with ce := true } 1 7) 2 0x100) (fun t => t.cache) = some [(0x100, 7)] ∧
      after [0xFE10] (setA { start with vl := 1, ce := true, cache := [(0x100, 5)] } 0 0x100) (fun t => t.cache) =
        some [] := by
  decide +kernel

theorem test_46_vectors :
    after [0xC053] (setS (setV { start with vl := 2 } 3 [0x1234, 0xABCD]) 2 0xFF) v1 = some (0x34, 0xCD) ∧
      after [0xC443] (setV (setV { start with vl := 1 } 3 [5, 6]) 1 [1, 1]) v1 = some (5, 1) ∧
      after [0xCA49] (setV start 1 [3, 4]) v1 = some (0, 0) ∧
      after [0xCC53] (setS (setV { start with vl := 2, vm := 0x8000000000000000 } 3 [1, 2]) 2 9) v1 = some (9, 2) ∧
      after [0xCE53] (setV (setV { start with vl := 2, vm := 0x4000000000000000 } 2 [7, 8]) 3 [1, 2]) v1 = some (1, 8) ∧
      after [0xD053] (setA (setV { start with vl := 1 } 2 [3]) 3 0x40) v1 = some (0, 0) ∧
      after [0xD253] (setA (setV { start with vl := 1 } 2 [0x8000000000000000]) 3 63) v1 = some (1, 0) ∧
      after [0xD453] (setA (setV { start with vl := 2 } 2 [1, 0x8000000000000000]) 3 1) v1 = some (3, 0) ∧
      after [0xD653] (setA (setV { start with vl := 2 } 2 [1, 2]) 3 1) v1 = some (0, 0x8000000000000001) ∧
      after [0xD853] (setS (setV { start with vl := 2 } 3 [1, 0xFFFFFFFFFFFFFFFF]) 2 0xA) v1 = some (0xB, 9) ∧
      after [0xDC43] (setV { start with vl := 1 } 3 [1]) v1 = some (0xFFFFFFFFFFFFFFFF, 0) ∧
      after [0xDE53] (setV (setV { start with vl := 1 } 2 [2]) 3 [3]) v1 = some (0xFFFFFFFFFFFFFFFF, 0) := by
  decide +kernel

theorem test_47_masks :
    after [0xF851] (setV { start with vl := 1 } 2 [0xF0F0]) v1 = some (8, 0) ∧
      after [0xF852] (setV { start with vl := 1 } 2 [7]) v1 = some (1, 0) ∧
      after [0xFA10] (setV { start with vl := 3 } 2 [0, 5, 0]) (fun t => t.vm) = some 0xA000000000000000 ∧
      after [0xFA11] (setV { start with vl := 3 } 2 [0, 5, 0]) (fun t => t.vm) = some 0x4000000000000000 ∧
      after [0xFA12] (setV { start with vl := 2 } 2 [0, 0xFFFFFFFFFFFFFFFF]) (fun t => t.vm) = some 0x8000000000000000 ∧
      after [0xFA13] (setV { start with vl := 2 } 2 [0, 0xFFFFFFFFFFFFFFFF]) (fun t => t.vm) = some 0x4000000000000000 ∧
      after [0xFA55] (setV (setV { start with vl := 4 } 2 [0, 5, 0, 0]) 1 [9, 9]) v1 = some (1, 9) ∧
      after [0xFA94] { start with vl := 1 } v1 = none := by
  decide +kernel

theorem test_47_memory :
    after [0xFC43] (setA (setA (setMem (setMem { start with vl := 2 } 0x100 0xA) 0x102 0x14) 0 0x100) 3 2) v1 =
        some (0xA, 0x14) ∧
      after [0xFC4B] (setA (setV (setMem { start with vl := 1 } 0x105 0x37) 3 [0xFFFFFFFF00000005]) 0 0x100) v1 =
        some (0x37, 0) ∧
      after [0xFE13] (setA (setA (setV { start with vl := 2 } 2 [7, 8]) 0 0x200) 3 0) (fun t => wordAt t 0x200) =
        some (some 8) ∧
      after [0xFE53] (setA (setV (setV { start with vl := 2 } 3 [4, 0]) 2 [7, 8]) 0 0x200)
        (fun t => (wordAt t 0x204, wordAt t 0x200)) = some (some 7, some 8) := by
  decide +kernel

/-! ## Witnesses: for each statement with hypotheses, a state and operands that meet them -/

/-- A package that may run: VL 1, P = 0x7700 and every other field 0. -/
def package : List Word := [0x0000770000000000, 0, 0, 0, 0, 1 <<< 41, 0, 0, 0, 0, 0, 0, 0, 0, 0, 0]

/-- The start state with the words of a package at XA, which is 0. -/
def withPackage (ws : List Word) : State := { start with mem := writeWords [] 0 ws }

theorem packageAt_withPackage {ws : List Word} (h : ws.length = 16) : packageAt (withPackage ws) ws := by
  have e := readWords_writeWords_same ws [] 0
  rw [h] at e
  exact e

theorem runnable_package : runnable package := ⟨by decide, Or.inr (by decide)⟩

/-- The start state with PASS at P. -/
def atPass : State := setMem start 0xC00000 0x0200000000000000

/-- The start state with `020100`, exp = 0x12345678, at P = 2, across two words. -/
def atExp : State := setMem (setMem { start with p := 2 } 0xC00000 0x20405678) 0xC00001 0x1234000000000000

def goesNext (r : Result) : Bool :=
  match r with
  | .next _ => true
  | _ => false

theorem exists_next {r : Result} (h : goesNext r = true) : ∃ t, r = .next t := by
  cases r with
  | next t => exact ⟨t, rfl⟩
  | fault f => exact absurd h Bool.false_ne_true
  | refused r => exact absurd h Bool.false_ne_true

theorem witness_StepKeepsInvariant : Legal atPass ∧ ∃ t, step atPass = .next t := by
  refine ⟨⟨by decide +kernel, by decide +kernel, by decide, by decide, List.Pairwise.nil, fun _ => rfl, ?_, fun _ => rfl,
    rfl, rfl, by decide⟩, exists_next (by decide +kernel)⟩
  intro e h
  exact absurd h (by simp [atPass, setMem, start, State.reset])

theorem witness_DeadstartLoadsPackage :
    let s := { State.reset with mem := writeWords [] 0 package }
    (environment s).running = false ∧ readWords (performAll (environment s)).mem 0 16 = some package ∧
      runnable package :=
  ⟨by decide +kernel, by decide +kernel, runnable_package⟩

theorem witness_EncodeThenDecode : (Instr.ca 0 1).wellFormed = true := by decide

theorem witness_DecodeThenEncode : decode [0x0200] = .ok .pass := by rfl

theorem witness_StepRunsDecoded :
    (environment atPass).running = true ∧ (environment atPass).held = none ∧
      pendingCauses (environment atPass) = Flags.none ∧ ([] : List Parcel).length + 1 = parcelCount 0x0200 ∧ parcelsAt (environment atPass) [0x0200] ∧
      decode [0x0200] = .ok .pass := by
  refine ⟨by decide +kernel, rfl, by decide +kernel, by decide, ?_, rfl⟩
  intro n h
  simp only [List.length_cons, List.length_nil] at h
  interval_cases n
  refine ⟨by decide +kernel, by decide +kernel, by decide +kernel, 0x0200000000000000, by decide +kernel, ?_⟩
  rw [List.getElem_cons_zero]
  decide +kernel

theorem witness_StepRunsDecoded_three :
    (environment atExp).running = true ∧ (environment atExp).held = none ∧ pendingCauses (environment atExp) = Flags.none ∧
      [0x5678, 0x1234].length + 1 = parcelCount 0x2040 ∧ parcelsAt (environment atExp) [0x2040, 0x5678, 0x1234] ∧
      decode [0x2040, 0x5678, 0x1234] = .ok (.aExp 1 0x12345678) := by
  refine ⟨by decide +kernel, rfl, by decide +kernel, by decide, ?_, by rfl⟩
  intro n h
  simp only [List.length_cons, List.length_nil] at h
  interval_cases n
  · refine ⟨by decide +kernel, by decide +kernel, by decide +kernel, 0x20405678, by decide +kernel, ?_⟩
    rw [List.getElem_cons_zero]
    decide +kernel
  · refine ⟨by decide +kernel, by decide +kernel, by decide +kernel, 0x20405678, by decide +kernel, ?_⟩
    rw [List.getElem_cons_succ, List.getElem_cons_zero]
    decide +kernel
  · refine ⟨by decide +kernel, by decide +kernel, by decide +kernel, 0x1234000000000000, by decide +kernel, ?_⟩
    rw [List.getElem_cons_succ, List.getElem_cons_succ, List.getElem_cons_zero]
    decide +kernel

/-- The start state with the unlisted parcel `020001` in the last parcel within the limit, at P. -/
def atUnlisted : State := setMem { start with p := 0xFFF, iba := 0x2FFF, ila := 0x3000 } 0xBFFFFF 0x2001

theorem witness_StepRunsDecoded_unlisted :
    (environment atUnlisted).running = true ∧ (environment atUnlisted).held = none ∧
      pendingCauses (environment atUnlisted) = Flags.none ∧ parcelsAt (environment atUnlisted) [0x2001] ∧
      ∃ why, unlistedFirst 0x2001 = some why := by
  refine ⟨rfl, rfl, by decide +kernel, ?_, _, rfl⟩
  intro n h
  simp only [List.length_cons, List.length_nil] at h
  interval_cases n
  refine ⟨by decide +kernel, by decide +kernel, by decide +kernel, 0x2001, by decide +kernel, ?_⟩
  rw [List.getElem_cons_zero]
  decide +kernel

/-- A CPU that holds on semaphore 5 while CPU 1 of its cluster runs. -/
def holding : State :=
  { setSm start 5 with
    ws := true, held := some 5
    peers := start.peers.set 1 { mm := false, sei := false, ws := false, cln := 1 } }

/-- A hold without a request, and a deadlocked one with a request pending. -/
theorem witness_StepRunsDecoded_hold :
    ((environment holding).running = true ∧ (environment holding).held = some 5 ∧
        pendingCauses (environment holding) = Flags.none) ∧
      let s := { holding with peers := start.peers, ipiPending := 1 }
      (environment s).running = true ∧ (environment s).held = some 5 ∧
        pendingCauses (environment s) ≠ Flags.none ∧ stuck (environment s) = true :=
  ⟨⟨rfl, rfl, by decide +kernel⟩, rfl, rfl, by decide +kernel, by decide +kernel⟩

theorem witness_ExchangeSwaps : packageAt (withPackage package) package ∧ runnable package :=
  ⟨packageAt_withPackage rfl, runnable_package⟩

theorem witness_ExitsExchange : packageAt (withPackage package) package ∧ runnable package := witness_ExchangeSwaps

theorem witness_ExchangeRefusesBadPackage_length :
    (∃ ws, packageAt (withPackage ws) ws ∧ ((ws.getD 5 0).extractLsb' 41 7).toNat = 0) ∧
      ∃ ws, packageAt (withPackage ws) ws ∧ ((ws.getD 5 0).extractLsb' 41 7).toNat = 65 :=
  ⟨⟨List.replicate 16 0, packageAt_withPackage rfl, by decide⟩,
    ⟨List.replicate 16 (65 <<< 41), packageAt_withPackage rfl, by decide⟩⟩

theorem witness_ExchangeRefusesBadPackage_flags :
    ∃ ws, packageAt (withPackage ws) ws ∧ ((ws.getD 5 0).extractLsb' 41 7).toNat = 64 ∧ ¬runnable ws := by
  refine ⟨package.set 5 (64 <<< 41) |>.set 6 (1 <<< 44), packageAt_withPackage rfl, by decide, ?_⟩
  rintro ⟨_, h | h⟩
  · have e : ((package.set 5 (64 <<< 41) |>.set 6 (1 <<< 44)).getD 6 0).extractLsb' 32 12 = 0 := by decide
    rw [e] at h
    simp [modeAt] at h
  · exact absurd h (by decide)

theorem witness_InterruptsAreTaken :
    (let s := environment { withPackage package with ipiPending := 1 };
      s.running = true ∧ s.modes.mm = false ∧ stuck s = false ∧ packageAt s package ∧
        s.ipiPending.getLsbD s.pn.toNat = true) ∧
      let s := environment { holding with mem := writeWords [] 0 package, pciEnable := true, pciRequest := true }
      s.running = true ∧ s.modes.mm = false ∧ stuck s = false ∧ packageAt s package ∧
        (s.pciEnable && s.pciRequest) = true :=
  ⟨⟨rfl, rfl, rfl, packageAt_withPackage rfl, by decide⟩,
    ⟨rfl, rfl, by decide +kernel, packageAt_withPackage rfl, rfl⟩⟩

theorem witness_RequestChoices :
    (let s := environment monitor;
      s.running = true ∧ s.modes.mm = true) ∧
      (let s := environment
          { setChan (withPackage package) 63 { Channel.idle with int := true } with
            modes := { start.modes with sei := true } };
        s.running = true ∧ s.modes.mm = false ∧ configured s 63 ∧ s.chans[63].int = true ∧ stuck s = false ∧
          packageAt s package ∧ s.modes.sei = true ∧
          ∀ n : Fin 32, n.val ≠ s.pn.toNat ∧ n.val < ncpu s.sys → s.peers[n].sei = false) ∧
      let s := environment
        { setChan start 0 { Channel.idle with int := true } with
          peers := start.peers.set 1 { mm := false, sei := true, ws := false, cln := 0 } }
      s.running = true ∧ s.modes.mm = false ∧ configured s 0 ∧ s.chans[0].int = true ∧ s.modes.sei = false ∧
        ∃ n : Fin 32, (n.val ≠ s.pn.toNat ∧ n.val < ncpu s.sys) ∧ s.peers[n].sei = true := by
  unfold configured
  exact ⟨⟨rfl, rfl⟩,
    ⟨rfl, rfl, by decide +kernel, by decide +kernel, rfl, packageAt_withPackage rfl, rfl, by decide +kernel⟩,
    ⟨rfl, rfl, by decide +kernel, by decide +kernel, rfl, by decide +kernel⟩⟩

/-- The first word past the limit: ILA is IBA and P is 0. -/
theorem witness_ProgramRangeExchanges :
    let s := environment { withPackage package with ila := 0x3000 }
    s.running = true ∧ s.held = none ∧ pendingCauses s = Flags.none ∧
      s.ila.toNat * 2 ^ 10 = s.iba.toNat * 2 ^ 10 + s.p.toNat / 4 ∧ packageAt s package :=
  ⟨rfl, rfl, by decide +kernel, by decide, packageAt_withPackage rfl⟩

/-- A first parcel, such as `020100` or `010000`, in the last place within the limit. -/
def atLimit (p : Parcel) : State :=
  { setMem (withPackage package) 0xBFFFFF p.toNat with p := 0xFFF, iba := 0x2FFF, ila := 0x3000 }

theorem witness_ProgramRangeExchanges_later :
    let s := environment (atLimit 0x2040)
    s.running = true ∧ s.held = none ∧ pendingCauses s = Flags.none ∧ packageAt s package ∧
      unlistedFirst 0x2040 = none ∧ parcelsAt s [0x2040] ∧ ([] : List Parcel).length + 1 < parcelCount 0x2040 ∧
      s.ila.toNat * 2 ^ 10 = s.iba.toNat * 2 ^ 10 + (s.p + BitVec.ofNat 24 1).toNat / 4 := by
  refine ⟨rfl, rfl, by decide +kernel, ?_, rfl, ?_, by decide, by decide⟩
  · unfold packageAt
    decide +kernel
  · intro n h
    simp only [List.length_cons, List.length_nil] at h
    interval_cases n
    refine ⟨by decide +kernel, by decide +kernel, by decide +kernel, 0x2040, by decide +kernel, ?_⟩
    rw [List.getElem_cons_zero]
    decide +kernel

/-- At the limit an unlisted first parcel is refused (log 53), and a listed one is a program range error (log 43). -/
theorem test_30_limit :
    (match fetchInstr atUnlisted with
      | .refused (.unlisted _) => true
      | _ => false) = true ∧
      fetchInstr (atLimit 0x2040) = .rangeError ∧ fetchInstr (atLimit 0x1000) = .rangeError := by
  decide +kernel

/-- A hold goes on although its word was stored into (log 49), and a deadlock takes a request with it (60 R512). -/
theorem test_40_hold :
    (match step { holding with ibufStored := [0xC00000] } with
      | .next t => some (t.ws, t.held, t.p)
      | _ => none) = some (true, some 5, 0) ∧
      (match step { holding with clusters := start.clusters } with
      | .next t => some (t.ws, t.held, t.p)
      | _ => none) = some (false, none, 1) := by
  decide +kernel

theorem test_60_deadlock_and_request :
    let s := { holding with mem := writeWords [] 0 package, peers := start.peers, ipiPending := 1 }
    step s = exchange { Flags.none with dl := true, icp := true } (environment s) := by
  have h : (causeDl.union (pendingCauses (environment
      { holding with mem := writeWords [] 0 package, peers := start.peers, ipiPending := 1 }))) =
      { Flags.none with dl := true, icp := true } := by decide +kernel
  simp only
  rw [step_resume rfl (Or.inr (by decide +kernel)), resume_hold (n := 5) rfl, ← h]
  rfl

theorem witness_PrivilegedInUserModeIsNop : isPrivileged (.xa 1) = true ∧ start.modes.mm = false := ⟨rfl, rfl⟩

theorem witness_OnlyExchangesChangeControl : ∃ t, exec .pass start = .next t := ⟨_, rfl⟩

theorem witness_UserModeKeepsSystemState : start.modes.mm = false ∧ start.inputs = [] ∧ ∃ t, exec .pass start = .next t :=
  ⟨rfl, rfl, _, rfl⟩

theorem witness_MonitorTransfers : monitor.modes.mm = true := rfl

theorem witness_MaintenanceModesStop : monitor.modes.mm = true := rfl

theorem witness_PerformanceMonitor : monitor.modes.mm = true ∧ monitor.maint = Maintenance.off := ⟨rfl, rfl⟩

/-- The smallest system, channel 0o25 not configured, in monitor mode. -/
def small : State := { monitor with sys := { backplane := .twoByTwo 0, memory := .mem16, channels := 0xDF } }

theorem witness_ChannelCommands :
    monitor.modes.mm = true ∧ configured monitor 0 ∧ configured monitor 63 ∧
      (readAj (setA monitor 1 0o20) 1).toNat = (0 : Fin 64).val + 0o20 ∧
      (readAj (setA monitor 1 0o117) 1).toNat = (63 : Fin 64).val + 0o20 ∧
      (∀ n : Fin 64, configured small n → (readAj (setA small 1 0o17) 1).toNat ≠ n.val + 0o20) ∧
      (∀ n : Fin 64, configured small n → (readAj (setA small 1 0o30) 1).toNat ≠ n.val + 0o20) ∧
      ∀ n : Fin 64, configured small n → (readAj (setA small 1 0o25) 1).toNat ≠ n.val + 0o20 := by
  unfold configured
  decide +kernel

theorem witness_RequestsBetweenCpus :
    (setA monitor 1 31).modes.mm = true ∧ (readAj (setA monitor 1 31) 1).toNat < ncpu monitor.sys ∧
      ncpu monitor.sys ≤ (readAj (setA monitor 1 32) 1).toNat ∧ ncpu small.sys ≤ (readAj (setA small 1 4) 1).toNat := by
  decide

/-- A clear semaphore 0 in the first cluster and a clear semaphore 31 in the last. -/
theorem witness_TestAndSet_clear :
    ((0 : BitVec 6).toNat = (0 : Fin 32).val ∧ start.cln.toNat = (⟨0, by decide⟩ : Fin Config.maxClusters).val + 1 ∧
        0 < nclusters start.sys ∧ (deliverAll start).clusters[0].sm.getLsbD 0 = false) ∧
      (31 : BitVec 6).toNat = (31 : Fin 32).val ∧
      ({ start with cln := 33 } : State).cln.toNat = (⟨32, by decide⟩ : Fin Config.maxClusters).val + 1 ∧
      32 < nclusters start.sys ∧ (deliverAll { start with cln := 33 }).clusters[32].sm.getLsbD 31 = false := by
  decide +kernel

/-- A set semaphore, with another CPU of the cluster running. -/
theorem witness_TestAndSet_hold :
    let s := { setSm start 5 with peers := start.peers.set 1 { mm := false, sei := false, ws := false, cln := 1 } }
    (deliverAll s).clusters[0].sm.getLsbD 5 = true ∧ s.cln.toNat = 0 + 1 ∧
      ¬((1 : Fin 32).val = s.pn.toNat ∨ ncpu s.sys ≤ 1 ∨ s.peers[1].cln ≠ s.cln ∨ s.peers[1].ws = true) := by
  decide +kernel

/-- A set semaphore, with no other CPU of the cluster running. -/
theorem witness_TestAndSet_deadlock :
    let s := setSm (withPackage package) 5
    (deliverAll s).clusters[0].sm.getLsbD 5 = true ∧
      (∀ m : Fin 32, m.val = s.pn.toNat ∨ ncpu s.sys ≤ m.val ∨ s.peers[m].cln ≠ s.cln ∨ s.peers[m].ws = true) ∧
      packageAt (deliverAll s) package :=
  ⟨by decide +kernel, by decide +kernel, packageAt_withPackage rfl⟩

theorem witness_SharedWrites :
    (31 : BitVec 6).toNat = (31 : Fin 32).val ∧
      start.cln.toNat = (⟨0, by decide⟩ : Fin Config.maxClusters).val + 1 ∧ 0 < nclusters start.sys := by
  decide

theorem witness_SharedReads :
    start.cln.toNat = (⟨0, by decide⟩ : Fin Config.maxClusters).val + 1 ∧
      ({ start with cln := 33 } : State).cln.toNat = (⟨32, by decide⟩ : Fin Config.maxClusters).val + 1 ∧
      32 < nclusters start.sys := by
  decide

theorem witness_NoClusterStops :
    ({ start with cln := 0 } : State).cln.toNat = 0 ∧
      nclusters start.sys < ({ start with cln := 34 } : State).cln.toNat ∧
      nclusters small.sys < ({ small with cln := 6 } : State).cln.toNat := by
  decide

/-- Each condition met and not met, at the ends of its range. -/
theorem witness_ConditionalBranches :
    (reg start.a 0).toNat = 0 ∧ (reg (setA start 0 1).a 0).toNat ≠ 0 ∧
      0 ≤ (reg (setA start 0 0x7FFFFFFF).a 0).toInt ∧ (reg (setA start 0 0x80000000).a 0).toInt < 0 ∧
      (reg start.s 0).toNat = 0 ∧ (reg (setS start 0 1).s 0).toNat ≠ 0 ∧
      0 ≤ (reg (setS start 0 0x7FFFFFFFFFFFFFFF).s 0).toInt ∧ (reg (setS start 0 0x8000000000000000).s 0).toInt < 0 := by
  decide +kernel

theorem witness_ChannelReads :
    (∀ m : Fin 64, start.chans[m].int = false) ∧
      (let s := setChan start 63 { Channel.idle with int := true };
        (configured s 63 ∧ s.chans[63].int = true) ∧ ∀ l : Fin 64, l < 63 → s.chans[l].int = false) ∧
      configured start 0 ∧ configured start 63 ∧ (reg (setA start 1 0o20).a 1).toNat = (0 : Fin 64).val + 0o20 ∧
      (reg (setA start 1 0o117).a 1).toNat = (63 : Fin 64).val + 0o20 ∧
      (∀ n : Fin 64, configured start n → (reg (setA start 1 0o17).a 1).toNat ≠ n.val + 0o20) ∧
      (∀ n : Fin 64, configured start n → (reg (setA start 1 0o120).a 1).toNat ≠ n.val + 0o20) ∧
      ∀ n : Fin 64, configured small n → (reg (setA small 1 0o25).a 1).toNat ≠ n.val + 0o20 := by
  unfold configured
  decide +kernel

theorem witness_OperandsAndAddresses : (1 : BitVec 3) ≠ 0 ∧ (7 : BitVec 3) ≠ 0 := by decide

/-- Counts 0, 2 and 65. -/
theorem witness_BlockLoads :
    (let s := setA start 1 0;
      (reg s.a 1).toNat ≤ 64 ∧ readable s (reg s.a 1).toNat fun e => reg s.a 0 + BitVec.ofNat 32 e) ∧
      (let s := setA (setA (setMem (setMem start 0x100 5) 0x101 6) 0 0x100) 1 2;
        (reg s.a 1).toNat ≤ 64 ∧ readable s (reg s.a 1).toNat fun e => reg s.a 0 + BitVec.ofNat 32 e) ∧
      64 < (reg (setA start 1 65).a 1).toNat := by
  unfold readable
  decide +kernel

/-- Counts 64 and 65; the last words of memory. -/
theorem witness_BlockStores :
    (let s := setA (setA start 0 0x3FFFFFC0) 1 64;
      (reg s.a 1).toNat ≤ 64 ∧ writable s (reg s.a 1).toNat fun e => reg s.a 0 + BitVec.ofNat 32 e) ∧
      64 < (reg (setA start 1 65).a 1).toNat := by
  unfold writable
  decide +kernel

theorem witness_ScalarFloat :
    start.modes.ifp = false ∧
      let s := { withPackage package with modes := { start.modes with ifp := true } }
      s.modes.ifp = true ∧ packageAt s package ∧ runnable package :=
  ⟨rfl, rfl, packageAt_withPackage rfl, runnable_package⟩

theorem witness_VectorFloat :
    start.modes.ifp = false ∧
      let s := { withPackage package with modes := { start.modes with ifp := true } }
      s.modes.ifp = true ∧ packageAt s package ∧ runnable package :=
  witness_ScalarFloat

/-- A word in memory, and a word in the cache; the address from (Ah) + exp, from exp, and from (Ah). -/
theorem witness_ScalarLoads :
    let s := setA (setMem start 0x1004 7) 2 0x1000
    let c := { start with ce := true, cache := [(0x1004, 5)] }
    dataInRange s 0x1004 = true ∧ scalarValue s (absoluteOf s 0x1004) = some 7 ∧
      dataInRange c 0x1004 = true ∧ scalarValue c (absoluteOf c 0x1004) = some 5 ∧
      (0x1004 : AWord).toNat = ((readAh s 2).toNat + (4 : AWord).toNat) % 2 ^ 32 ∧
      (0x1004 : AWord) = readAh (setA c 2 0x1004) 2 := by
  decide +kernel

/-- The last word of memory. -/
theorem witness_ScalarStores :
    let s := setA start 2 0x3FFFFFFF
    dataInRange s 0x3FFFFFFF = true ∧ absoluteOf s 0x3FFFFFFF < memWords s.sys ∧
      (0x3FFFFFFF : AWord).toNat = ((readAh s 2).toNat + (0 : AWord).toNat) % 2 ^ 32 ∧
      (0x3FFFFFFF : AWord) = readAh s 2 := by
  decide +kernel

/-- The first address past the limit, with either IOR; from (Ah) + exp, from exp, and from (Ah). -/
theorem witness_OperandRangeError_scalar :
    (let s := { start with dla := 1, modes := { start.modes with ior := false } };
      dataInRange s 0x400 = false ∧ s.modes.ior = false ∧
        (0x400 : AWord).toNat = ((readAh s 0).toNat + (0x400 : AWord).toNat) % 2 ^ 32) ∧
      let s := setA { withPackage package with dla := 1 } 2 0x400
      dataInRange s 0x400 = false ∧ s.modes.ior = true ∧ packageAt s package ∧ runnable package ∧
        (0x400 : AWord) = readAh s 2 :=
  ⟨by decide, by decide, rfl, packageAt_withPackage rfl, runnable_package, rfl⟩

/-- Two words around the limit, the first of them in range and present. -/
def acrossLimit : State :=
  setA (setA (setA (setV { setMem start 0x3FF 5 with dla := 1, vl := 2 } 3 [0, 1]) 0 0x3FF) 1 2) 4 1

/-- Element 1 of two is out of range and element 0 is found, in each form of address. -/
theorem witness_OperandRangeError_transfers :
    let s := acrossLimit
    let block (e : Nat) : AWord := reg s.a 0 + BitVec.ofNat 32 e
    let strided (e : Nat) : AWord := BitVec.ofNat 32 ((reg s.a 0).toNat + e * (readAk s 4).toNat)
    let indexed (e : Nat) : AWord := BitVec.ofNat 32 ((reg s.a 0).toNat + (element s 3 e).toNat)
    s.modes.ior = true ∧ ({ s with modes := { s.modes with ior := false } } : State).modes.ior = false ∧
      (reg s.a 1).toNat = 2 ∧ s.vl.toNat = 2 ∧
      (∀ at_ ∈ [block, strided, indexed], readable s 1 at_ ∧ writable s 1 at_ ∧ dataInRange s (at_ 1) = false) := by
  unfold readable writable
  decide +kernel

/-- A first word beyond the memory of a small system, and one without a value. -/
theorem witness_OperandRangeError_absent :
    (let s := setA small 0 0x2000000;
      dataInRange s (reg s.a 0) = true ∧ memWords s.sys ≤ absoluteOf s (reg s.a 0)) ∧
      start.inputs = [] ∧ dataInRange start (reg start.a 0) = true ∧
      absoluteOf start (reg start.a 0) < memWords start.sys ∧
      wordAt start (absoluteOf start (reg start.a 0)) = none := by
  decide +kernel

/-- What the references of a load of two words answer from an address. -/
def loadOfTwo (s : State) (a0 : AWord) : Access Nat :=
  let u := setA s 0 a0
  (readElements (strided u 1) [0, 1] u).andThen fun r => .done r.1.length

/-- The first reference that fails decides (42 R263): addresses that wrap end in the range error of their first word,
whatever word 0 holds, and a word without a value faults when it comes before the limit. -/
theorem test_42_order :
    loadOfTwo start 0xFFFFFFFF = .rangeError ∧ loadOfTwo acrossLimit 0x3FF = .rangeError ∧
      loadOfTwo { acrossLimit with mem := [] } 0x3FF = .fault .memoryNoValue ∧
      loadOfTwo { acrossLimit with modes := { start.modes with ior := false } } 0x3FF = .refused .operandRange := by
  decide +kernel

/-- An abandoned load can have read past the range error where a word holds a value, and a store can have written there. -/
theorem test_60_abandoned :
    (readSome (strided (setA start 0 0xFFFFFFFF) 1) [0, 1] (setA start 0 0xFFFFFFFF)).1 = [] ∧
      (readSome (strided (setA (setMem start 0 7) 0 0xFFFFFFFF) 1) [0, 1]
        (setA (setMem start 0 7) 0 0xFFFFFFFF)).1 = [(1, 7)] ∧
      (writeSome vectorWrite (strided (setA start 0 0xFFFFFFFF) 1) (fun _ => 9) (fun _ => true) [0, 1]
        (setA start 0 0xFFFFFFFF)).pending = [(0, 9)] := by
  decide +kernel

theorem witness_VectorDoubleShifts :
    (1 : BitVec 3) ≠ 2 ∧ (readAk (setA start 3 63) 3).toNat < 64 ∧ 64 ≤ (readAk (setA start 3 64) 3).toNat := by decide

/-- 175ij4 to 175ij7 between different registers. -/
theorem witness_MaskTests : (1 : BitVec 3) ≠ 2 := by decide

/-- VL 64 with stride 0, VL 2 at consecutive words, and VL 2 indexed. -/
theorem witness_VectorLoads :
    let s := setA (setV (setMem (setMem start 0x100 0xA) 0x101 0xB) 3 [1, 0]) 0 0x100
    let z := setA s 4 0
    s.vl.toNat ≤ 64 ∧
      readable z z.vl.toNat (fun e => BitVec.ofNat 32 ((reg z.a 0).toNat + e * (readAk z 4).toNat)) ∧
      readable { s with vl := 2 } 2 (fun e => BitVec.ofNat 32 ((reg s.a 0).toNat + e)) ∧
      readable { s with vl := 2 } 2 (fun e => BitVec.ofNat 32 ((reg s.a 0).toNat + (element s 3 e).toNat)) := by
  unfold readable
  decide +kernel

/-- VL 64, strided, consecutive and indexed. -/
theorem witness_VectorStores :
    let s := setA (setA (setV start 3 [4, 4]) 0 0x200) 4 2
    writable s s.vl.toNat (fun e => BitVec.ofNat 32 ((reg s.a 0).toNat + e * (readAk s 4).toNat)) ∧
      writable s s.vl.toNat (fun e => BitVec.ofNat 32 ((reg s.a 0).toNat + e)) ∧
      writable s s.vl.toNat (fun e => BitVec.ofNat 32 ((reg s.a 0).toNat + (element s 3 e).toNat)) := by
  unfold writable
  decide +kernel

/-! ## A program from the interface: the step fetches and runs the word placed at P -/

theorem test_withFetchWord :
    (match step (State.reset.withFetchWord 48 (0o020100 + 0x5678 * 2 ^ 16 + 0x1234 * 2 ^ 32)) with
      | .next t => some (reg t.a 1, t.p)
      | _ => none) = some (0x12345678, 3) := by
  decide +kernel

end Sys2Proof.Tests
end

/-! PROOFS. PASS, the mode instructions and CMR (spec/40_control_monitor.md). -/

namespace Sys2Proof.ControlMonitor

open Sys2Proof Sys2Proof.Machine Sys2Proof.Safety

/-! ## One-parcel encodings -/

/-- A one-parcel row is the instruction it decodes to whatever follows it, since it is never truncated (30 R123). -/
theorem listed_of_parcelCount_one {p : Parcel} {i : Instr} (one : parcelCount p = 1)
    (row : ∀ m n, decodeParcels p m n = .ok i) : Listed [p] i := by
  intro rest
  have whole : ¬rest.length + 1 < parcelCount p := by omega
  simp [decode, whole, row]

/-! ## What each instruction does -/

theorem exec_pass (s : State) : exec .pass s = .next (advance 1 s) := rfl

theorem exec_efi (s : State) : exec .efi s = .next (advance 1 { s with modes := { s.modes with ifp := true } }) := rfl

theorem exec_dfi (s : State) : exec .dfi s = .next (advance 1 { s with modes := { s.modes with ifp := false } }) := rfl

theorem exec_eri (s : State) : exec .eri s = .next (advance 1 { s with modes := { s.modes with ior := true } }) := rfl

theorem exec_dri (s : State) : exec .dri s = .next (advance 1 { s with modes := { s.modes with ior := false } }) := rfl

theorem exec_dbm (s : State) : exec .dbm s = .next (advance 1 { s with modes := { s.modes with bdm := false } }) := rfl

theorem exec_ebm (s : State) : exec .ebm s = .next (advance 1 { s with modes := { s.modes with bdm := true } }) := rfl

theorem exec_cmr (s : State) : exec .cmr s = .next (advance 1 (performAll s)) := rfl

/-- An instruction whose meaning is a state moved past its parcels goes on from that state. -/
theorem goesOn_of_eq_advance {out : Result} {u : State} {n : Nat} (h : out = .next (advance n u)) : goesOn out u n :=
  h ▸ goesOn_next rfl rfl

/-! ## Memory once the writes in flight are performed -/

/-- Moving P changes no byte as this CPU finds it. -/
theorem byteAt_advance (n : Nat) (s : State) (b : Nat) : byteAt (advance n s) b = byteAt s b :=
  byteAt_congr (advance_mem n s) (advance_pending n s) b

/-- With no write in flight, memory itself holds what this CPU finds (20 R94, R105). -/
theorem readByte_mem_of_pending_nil {s : State} (h : s.pending = []) (b : Nat) : readByte s.mem b = byteAt s b := by
  simp [byteAt, performAll, performList, h]

/-! ## The statements -/

/-- Settles O29: performing the queue empties it and changes no byte as this CPU finds it, so memory then holds those
bytes. -/
theorem completeMemoryReferences : Obligations.CompleteMemoryReferences := by
  refine ⟨listed_of_parcelCount_one rfl fun _ _ => rfl, fun s => ?_⟩
  have empty : (advance 1 (performAll s)).pending = [] := by simp
  have seen (b : Nat) : byteAt (advance 1 (performAll s)) b = byteAt s b := by
    rw [byteAt_advance, byteAt_performAll]
  have held (b : Nat) : readByte (advance 1 (performAll s)).mem b = byteAt s b := by
    rw [readByte_mem_of_pending_nil empty, seen]
  exact ⟨_, exec_cmr s, empty, held, seen, pAfter_advance _ _ _ rfl, rfl⟩

/-- Settles O26: each of the six words is its row, and each meaning writes its own bit of MODES and moves P. -/
theorem modeInstructions : Obligations.ModeInstructions := by
  constructor
  · refine ⟨?_, ?_, ?_, ?_, ?_, ?_⟩ <;> exact listed_of_parcelCount_one rfl fun _ _ => rfl
  · intro s
    exact ⟨goesOn_of_eq_advance (exec_efi s), goesOn_of_eq_advance (exec_dfi s), goesOn_of_eq_advance (exec_eri s),
      goesOn_of_eq_advance (exec_dri s), goesOn_of_eq_advance (exec_dbm s), goesOn_of_eq_advance (exec_ebm s)⟩

/-- Settles O28: the word 001000 is PASS, and its meaning is the state it found with P moved. -/
theorem passDoesNothing : Obligations.PassDoesNothing :=
  ⟨listed_of_parcelCount_one rfl fun _ _ => rfl, fun s => goesOn_of_eq_advance (exec_pass s)⟩

end Sys2Proof.ControlMonitor

/-! PROOFS. The scalar logical operations, single shifts and integer arithmetic (spec/43_s_register_integer.md). -/

namespace Sys2Proof.ScalarRegister

open Sys2Proof Sys2Proof.Machine Sys2Proof.Safety Sys2Proof.ControlMonitor

/-! ## One-parcel encodings with register fields -/

/-- A row with fields i, j, k that takes one parcel is listed when its packed parcel decodes to it (30 R122, R123). -/
theorem listed_word1 (g : BitVec 4) (h i j k : BitVec 3) {ins : Instr} (one : parcelCount (pack g h i j k) = 1)
    (row : ∀ m n, decodeParcels (pack g h i j k) m n = .ok ins) : Listed (word1 (g ++ h) i j k) ins :=
  listed_of_parcelCount_one one row

/-- The same with j and k as one number (30 R126). -/
theorem listed_wordJk (g : BitVec 4) (h i : BitVec 3) (jk : BitVec 6) {ins : Instr}
    (one : parcelCount (packJk g h i jk) = 1) (row : ∀ m n, decodeParcels (packJk g h i jk) m n = .ok ins) :
    Listed (wordJk (g ++ h) i jk) ins :=
  listed_of_parcelCount_one one row

/-- The words of 044 to 051 (43 R285 to R290). -/
theorem listed_logical (i j k : BitVec 3) :
    Listed (word1 0o044 i j k) (.sAnd i j k) ∧ Listed (word1 0o045 i j k) (.sAndNot i j k) ∧
      Listed (word1 0o046 i j k) (.sXor i j k) ∧ Listed (word1 0o047 i j k) (.sXnor i j k) ∧
      Listed (word1 0o050 i j k) (.sMerge i j k) ∧ Listed (word1 0o051 i j k) (.sOr i j k) := by
  refine ⟨listed_word1 4 4 i j k ?_ ?_, listed_word1 4 5 i j k ?_ ?_, listed_word1 4 6 i j k ?_ ?_,
    listed_word1 4 7 i j k ?_ ?_, listed_word1 5 0 i j k ?_ ?_, listed_word1 5 1 i j k ?_ ?_⟩ <;>
  simp [parcelCount, decodeParcels, decode04, decode05]

/-- The words of 052 to 055 (43 R291 to R294). -/
theorem listed_shifts (i : BitVec 3) (jk : BitVec 6) :
    Listed (wordJk 0o052 i jk) (.s0ShiftLeft i jk) ∧ Listed (wordJk 0o053 i jk) (.s0ShiftRight i jk) ∧
      Listed (wordJk 0o054 i jk) (.sShiftLeft i jk) ∧ Listed (wordJk 0o055 i jk) (.sShiftRight i jk) := by
  refine ⟨listed_wordJk 5 2 i jk ?_ ?_, listed_wordJk 5 3 i jk ?_ ?_, listed_wordJk 5 4 i jk ?_ ?_,
    listed_wordJk 5 5 i jk ?_ ?_⟩ <;>
  simp [parcelCount, decodeParcels, decode05]

/-- The words of 060 and 061 (43 R297, R298). -/
theorem listed_integer (i j k : BitVec 3) :
    Listed (word1 0o060 i j k) (.sAdd i j k) ∧ Listed (word1 0o061 i j k) (.sSub i j k) := by
  refine ⟨listed_word1 6 0 i j k ?_ ?_, listed_word1 6 1 i j k ?_ ?_⟩ <;>
  simp [parcelCount, decodeParcels, decode06]

/-! ## What each instruction writes -/

section
variable (i j k : BitVec 3) (jk : BitVec 6) (s : State)

theorem exec_sAnd : exec (.sAnd i j k) s = finishS i (readSj s j &&& readSk s k) 1 s := rfl

theorem exec_sSignOf : exec (.sSignOf i j) s = finishS i (readSj s j &&& signBit) 1 s := rfl

theorem exec_sSignOf2 : exec (.sSignOf2 i j) s = finishS i (readSj s j &&& signBit) 1 s := rfl

theorem exec_sAndNot : exec (.sAndNot i j k) s = finishS i (readSj s j &&& ~~~readSk s k) 1 s := rfl

theorem exec_sClearSign : exec (.sClearSign i j) s = finishS i (readSj s j &&& ~~~signBit) 1 s := rfl

theorem exec_sXor : exec (.sXor i j k) s = finishS i (readSj s j ^^^ readSk s k) 1 s := rfl

theorem exec_sToggleSign : exec (.sToggleSign i j) s = finishS i (readSj s j ^^^ signBit) 1 s := rfl

theorem exec_sToggleSign2 : exec (.sToggleSign2 i j) s = finishS i (readSj s j ^^^ signBit) 1 s := rfl

theorem exec_sXnor : exec (.sXnor i j k) s = finishS i (~~~(readSj s j ^^^ readSk s k)) 1 s := rfl

theorem exec_sNot : exec (.sNot i k) s = finishS i (~~~readSk s k) 1 s := rfl

theorem exec_sXnorSign : exec (.sXnorSign i j) s = finishS i (~~~(readSj s j ^^^ signBit)) 1 s := rfl

theorem exec_sXnorSign2 : exec (.sXnorSign2 i j) s = finishS i (~~~(readSj s j ^^^ signBit)) 1 s := rfl

theorem exec_sNotSign : exec (.sNotSign i) s = finishS i (~~~signBit) 1 s := rfl

theorem exec_sMerge :
    exec (.sMerge i j k) s = finishS i ((reg s.s i &&& ~~~readSk s k) ||| (readSj s j &&& readSk s k)) 1 s := rfl

theorem exec_sMergeSign :
    exec (.sMergeSign i j) s = finishS i ((reg s.s i &&& ~~~signBit) ||| (readSj s j &&& signBit)) 1 s := rfl

theorem exec_sOr : exec (.sOr i j k) s = finishS i (readSj s j ||| readSk s k) 1 s := rfl

theorem exec_sCopy : exec (.sCopy i k) s = finishS i (readSk s k) 1 s := rfl

theorem exec_sSetSign : exec (.sSetSign i j) s = finishS i (readSj s j ||| signBit) 1 s := rfl

theorem exec_sSetSign2 : exec (.sSetSign2 i j) s = finishS i (readSj s j ||| signBit) 1 s := rfl

theorem exec_sSignBit : exec (.sSignBit i) s = finishS i signBit 1 s := rfl

theorem exec_s0ShiftLeft : exec (.s0ShiftLeft i jk) s = finishS 0 (shiftLeft (reg s.s i) jk.toNat) 1 s := rfl

theorem exec_s0ShiftRight : exec (.s0ShiftRight i jk) s = finishS 0 (shiftRight (reg s.s i) (64 - jk.toNat)) 1 s := rfl

theorem exec_sShiftLeft : exec (.sShiftLeft i jk) s = finishS i (shiftLeft (reg s.s i) jk.toNat) 1 s := rfl

theorem exec_sShiftRight : exec (.sShiftRight i jk) s = finishS i (shiftRight (reg s.s i) (64 - jk.toNat)) 1 s := rfl

theorem exec_sAdd : exec (.sAdd i j k) s = finishS i (readSj s j + readSk s k) 1 s := rfl

theorem exec_sSub : exec (.sSub i j k) s = finishS i (readSj s j - readSk s k) 1 s := rfl

theorem exec_sNeg : exec (.sNeg i k) s = finishS i (-readSk s k) 1 s := rfl

end

/-- An instruction that ends by writing w to Si writes a word with every property of w. -/
theorem writesS_of_eq_finishS {out : Result} {s : State} {i : BitVec 3} {w : Word} {n : Nat} {q : Word → Prop}
    (ends : out = finishS i w n s) (holds : q w) : writesS out s i n q :=
  ends ▸ writesS_finishS holds

/-! ## The logical operations, bit by bit -/

/-- The outcome writes Si alone, each bit of it f of that bit of x, of y and of the old Si. -/
def writesBits (out : Result) (s : State) (i : BitVec 3) (f : Bool → Bool → Bool → Bool) (x y : Word) : Prop :=
  writesS out s i 1 fun w => ∀ p < 64, w.getLsbD p = f (x.getLsbD p) (y.getLsbD p) ((reg s.s i).getLsbD p)

section
variable {out : Result} {s : State} {i : BitVec 3} {x y : Word}

theorem writesBits_and (ends : out = finishS i (x &&& y) 1 s) : writesBits out s i (fun a b _ => a && b) x y :=
  writesS_of_eq_finishS ends fun _ _ => BitVec.getLsbD_and

theorem writesBits_andNot (ends : out = finishS i (x &&& ~~~y) 1 s) :
    writesBits out s i (fun a b _ => a && !b) x y :=
  writesS_of_eq_finishS ends fun p hp => by simp [hp]

theorem writesBits_xor (ends : out = finishS i (x ^^^ y) 1 s) : writesBits out s i (fun a b _ => a != b) x y :=
  writesS_of_eq_finishS ends fun _ _ => BitVec.getLsbD_xor

/-- The complement of the logical difference is equality of the bits (43 R288). -/
theorem writesBits_xnor (ends : out = finishS i (~~~(x ^^^ y)) 1 s) : writesBits out s i (fun a b _ => a == b) x y :=
  writesS_of_eq_finishS ends fun p hp => by
    simp only [BitVec.getLsbD_not, BitVec.getLsbD_xor, hp, decide_true, Bool.true_and]
    cases x.getLsbD p <;> cases y.getLsbD p <;> rfl

theorem writesBits_not (x : Word) (ends : out = finishS i (~~~y) 1 s) : writesBits out s i (fun _ b _ => !b) x y :=
  writesS_of_eq_finishS ends fun p hp => by simp [hp]

/-- Where the selecting bit is 1 the merge takes x, and where it is 0 it keeps the old Si (43 R289). -/
theorem writesBits_merge (ends : out = finishS i ((reg s.s i &&& ~~~y) ||| (x &&& y)) 1 s) :
    writesBits out s i (fun a b c => if b then a else c) x y :=
  writesS_of_eq_finishS ends fun p hp => by
    simp only [BitVec.getLsbD_or, BitVec.getLsbD_and, BitVec.getLsbD_not, hp, decide_true, Bool.true_and]
    cases y.getLsbD p <;> simp

theorem writesBits_or (ends : out = finishS i (x ||| y) 1 s) : writesBits out s i (fun a b _ => a || b) x y :=
  writesS_of_eq_finishS ends fun _ _ => BitVec.getLsbD_or

theorem writesBits_copy (x : Word) (ends : out = finishS i y 1 s) : writesBits out s i (fun _ b _ => b) x y :=
  writesS_of_eq_finishS ends fun _ _ => rfl

end

/-- The constant SB of the listing is bit 63 alone. -/
theorem signBit_eq_twoPow : signBit = BitVec.twoPow 64 63 := by decide

/-! ## The statements -/

/-- Settles O43: each word is its row, and each instruction ends by writing one of eight words to Si, whose bits are
known; the special forms have SB in the place of (Sk), or no (Sj). -/
theorem scalarLogical : Obligations.ScalarLogical := by
  intro i j k s bits x y sb
  have hsb : sb = signBit := signBit_eq_twoPow.symm
  clear_value sb
  subst hsb
  exact ⟨listed_logical i j k,
    writesBits_and (exec_sAnd i j k s), writesBits_and (exec_sSignOf i j s), writesBits_and (exec_sSignOf2 i j s),
    writesBits_andNot (exec_sAndNot i j k s), writesBits_andNot (exec_sClearSign i j s),
    writesBits_xor (exec_sXor i j k s), writesBits_xor (exec_sToggleSign i j s),
    writesBits_xor (exec_sToggleSign2 i j s),
    writesBits_xnor (exec_sXnor i j k s), writesBits_not x (exec_sNot i k s),
    writesBits_xnor (exec_sXnorSign i j s), writesBits_xnor (exec_sXnorSign2 i j s),
    writesBits_not x (exec_sNotSign i s),
    writesBits_merge (exec_sMerge i j k s), writesBits_merge (exec_sMergeSign i j s),
    writesBits_or (exec_sOr i j k s), writesBits_copy x (exec_sCopy i k s), writesBits_or (exec_sSetSign i j s),
    writesBits_or (exec_sSetSign2 i j s), writesBits_copy x (exec_sSignBit i s)⟩

/-- Settles O44: each word is its row, and the shifts are the product with, and the quotient by, a power of 2. -/
theorem scalarShifts : Obligations.ScalarShifts := by
  intro i jk s x left right
  have hleft : left (shiftLeft x jk.toNat) := toNat_shiftLeft x jk.toNat
  have hright : right (shiftRight x (64 - jk.toNat)) := toNat_shiftRight x (64 - jk.toNat)
  exact ⟨listed_shifts i jk,
    writesS_of_eq_finishS (exec_s0ShiftLeft i jk s) hleft, writesS_of_eq_finishS (exec_s0ShiftRight i jk s) hright,
    writesS_of_eq_finishS (exec_sShiftLeft i jk s) hleft, writesS_of_eq_finishS (exec_sShiftRight i jk s) hright⟩

/-- Settles O46: each word is its row, and the arithmetic of 64-bit words is that of numbers modulo 2^64. -/
theorem scalarInteger : Obligations.ScalarInteger := by
  intro i j k s x y
  have difference : (readSj s j - readSk s k).toNat = (x + 2 ^ 64 - y) % 2 ^ 64 := by
    have hy : y < 2 ^ 64 := (readSk s k).isLt
    rw [BitVec.toNat_sub, Nat.add_comm x, Nat.sub_add_comm hy.le]
  exact ⟨listed_integer i j k,
    writesS_of_eq_finishS (exec_sAdd i j k s) (BitVec.toNat_add _ _),
    writesS_of_eq_finishS (exec_sSub i j k s) difference,
    writesS_of_eq_finishS (exec_sNeg i k s) (BitVec.toNat_neg _)⟩

end Sys2Proof.ScalarRegister

/-! PROOFS. The decoder and the encoder are inverse to each other (spec/30_encoding.md). -/

namespace Sys2Proof.Encoding

open Sys2Proof Sys2Proof.Machine Sys2Proof.Safety Sys2Proof.ControlMonitor

/-! ## Second spellings (30 R134) -/

theorem primary_of_not_spelling {i : Instr} (h : i.isSpelling = false) : i.primary = i := by
  cases i <;> first | rfl | cases h

theorem isSpelling_primary (i : Instr) : i.primary.isSpelling = false := by
  cases i <;> rfl

theorem wellFormed_primary {i : Instr} (h : i.wellFormed = true) : i.primary.wellFormed = true := by
  cases i <;> first | exact h | rfl

/-! ## Fields of parcels -/

@[simp] theorem packJk_append (g : BitVec 4) (h i j k : BitVec 3) : packJk g h i (j ++ k) = pack g h i j k := by
  have e := packJk_fields (pack g h i j k)
  simpa using e

theorem octal_cases (h : BitVec 3) : h = 0 ∨ h = 1 ∨ h = 2 ∨ h = 3 ∨ h = 4 ∨ h = 5 ∨ h = 6 ∨ h = 7 := by
  revert h
  decide

theorem branchParcel_fields {p m : Parcel} (bit : p.getLsbD 8 = false) :
    branchParcel (gField p) (hField p) (ijkField p ++ m) = p := by
  have high : (ijkField p ++ m : BitVec 24).extractLsb' 16 8 = ijkField p := by
    apply BitVec.eq_of_getLsbD_eq
    intro q hq
    simp only [BitVec.getLsbD_extractLsb', BitVec.getLsbD_append]
    simp [hq]
  have zero : 0#1 = p.extractLsb' 8 1 := by
    apply BitVec.eq_of_getLsbD_eq
    intro q hq
    obtain rfl : q = 0 := by omega
    simpa using bit.symm
  rw [branchParcel, high, zero]
  apply BitVec.eq_of_getLsbD_eq
  intro q hq
  simp only [gField, hField, ijkField, BitVec.getLsbD_append, BitVec.getLsbD_extractLsb']
  split_ifs <;> (rw [decide_eq_true (by omega), Bool.true_and]; congr 1; omega)

@[simp] theorem branchLow_append (x : BitVec 8) (m : Parcel) : branchLow (x ++ m) = m := by
  apply BitVec.eq_of_getLsbD_eq
  intro q hq
  simp only [branchLow, BitVec.getLsbD_extractLsb', BitVec.getLsbD_append]
  simp [hq]

@[simp] theorem expLow_expOf (m n : Parcel) : expLow (expOf m n) = m := by
  apply BitVec.eq_of_getLsbD_eq
  intro q hq
  simp only [expLow, expOf, BitVec.getLsbD_extractLsb', BitVec.getLsbD_append]
  simp [hq]

@[simp] theorem expHigh_expOf (m n : Parcel) : expHigh (expOf m n) = n := by
  apply BitVec.eq_of_getLsbD_eq
  intro q hq
  simp only [expHigh, expOf, BitVec.getLsbD_extractLsb', BitVec.getLsbD_append]
  simp [hq]

/-- A second spelling has the parcels of the instruction it spells; three of them write jk as two fields. -/
theorem encode_primary (i : Instr) : encode i = encode i.primary := by
  cases i with
  | sIntOne i => exact congrArg (fun p => [p]) (packJk_append 4 2 i 7 7).symm
  | sMinusOne i => exact congrArg (fun p => [p]) (packJk_append 4 2 i 0 0).symm
  | sClear i => exact congrArg (fun p => [p]) (packJk_append 4 3 i 0 0).symm
  | _ => rfl

/-! ## From the decoder to the encoder -/

/-- The parcels p, m and n start with those of the instruction, which is well formed, no second spelling and as long as
the operation code says. -/
def Reads (p m n : Parcel) (i : Instr) : Prop :=
  encode i = [p, m, n].take (parcelCount p) ∧ i.wellFormed = true ∧ i.isSpelling = false

section
variable {p m n : Parcel} {i made : Instr}

theorem reads_one (one : parcelCount p = 1) (row : encode i = [p])
    (listed : i.wellFormed = true ∧ i.isSpelling = false) : Reads p m n i :=
  ⟨by rw [row, one]; rfl, listed⟩

theorem reads_ok (hd : Except.ok made = (.ok i : Except Reject Instr)) (row : Reads p m n made) : Reads p m n i := by
  cases hd
  exact row

theorem reads_ite {c : Prop} [Decidable c] {rest : Except Reject Instr} (hd : (if c then .ok made else rest) = .ok i)
    (row : c → Reads p m n made) (others : rest = .ok i → Reads p m n i) : Reads p m n i := by
  split at hd
  · next hc => exact reads_ok hd (row hc)
  · exact others hd

theorem reads_listedIf {c : Bool} (hd : listedIf c made = .ok i) (row : c = true → Reads p m n made) :
    Reads p m n i :=
  reads_ite hd row fun h => nomatch h

theorem reads_branchTo {make : BitVec 24 → Instr} (hd : branchTo p m make = .ok i) (two : parcelCount p = 2)
    (row : ∀ t, encode (make t) = [branchParcel (gField p) (hField p) t, branchLow t])
    (listed : ∀ t, (make t).wellFormed = true ∧ (make t).isSpelling = false) : Reads p m n i := by
  unfold branchTo at hd
  split at hd
  · cases hd
  · next bit =>
    refine reads_ok hd ⟨?_, listed _⟩
    simp [row, branchParcel_fields (by simpa using bit), two]

theorem reads_threeParcel {g : BitVec 4} {h x j k : BitVec 3} (hd : threeParcel (pack g h x j k) made = .ok i)
    (three : parcelCount (pack g h x j k) = 3) (row : encode made = [pack g h x 0 0, m, n])
    (listed : made.wellFormed = true ∧ made.isSpelling = false) : Reads (pack g h x j k) m n i := by
  refine reads_ite hd (fun zero => ⟨?_, listed⟩) fun h => nomatch h
  have e : pack g h x 0 0 = pack g h x j k := by
    rw [← packJk_append g h x j k, ← packJk_append g h x 0 0]
    simp only [jkField_pack, beq_iff_eq] at zero
    rw [zero]
    rfl
  rw [row, e, three]
  rfl
end


/-! One lemma for each of the decoder's tables, its cases in the order of the table. -/

section
variable {h i j k : BitVec 3} {m n : Parcel} {ins : Instr}

theorem reads_decode00 (hd : decode00 (pack 0 h i j k) m = .ok ins) : Reads (pack 0 h i j k) m n ins := by
  simp only [decode00, hField_pack, iField_pack, jField_pack, kField_pack, jkField_pack, Bool.and_eq_true, beq_iff_eq,
    decide_eq_true_eq, bne_iff_ne] at hd
  rcases octal_cases h with rfl | rfl | rfl | rfl | rfl | rfl | rfl | rfl
  · exact reads_listedIf hd fun c => reads_one (by simp [parcelCount]) (by simp_all [encode]) ⟨rfl, rfl⟩
  · have one : parcelCount (pack 0 1 i j k) = 1 := by simp [parcelCount]
    iterate 19 refine reads_ite hd (fun c => reads_one one (by simp [encode, c]) ⟨rfl, rfl⟩) fun hd => ?_
    refine reads_ite hd (fun c => reads_one one (by simp [encode, c]) ⟨?_, rfl⟩) fun hd => ?_
    · have fields : ¬j = 0 ∨ ¬k = 0 := by
        rw [← not_and_or]
        rintro ⟨rfl, rfl⟩
        exact c.2 rfl
      simpa [Instr.wellFormed] using fields
    · exact reads_ite hd (fun c => reads_one one (by simp [encode, c]) ⟨rfl, rfl⟩) fun hd => nomatch hd
  · have one : parcelCount (pack 0 2 i j k) = 1 := by simp [parcelCount]
    iterate 8 refine reads_ite hd (fun c => reads_one one (by simp [encode, c]) ⟨rfl, rfl⟩) fun hd => ?_
    cases hd
  · have one : parcelCount (pack 0 3 i j k) = 1 := by simp [parcelCount]
    refine reads_ite hd (fun c => reads_one one (by simp [encode, c]) ⟨rfl, rfl⟩) fun hd => ?_
    iterate 3
      refine reads_ite hd
        (fun c => reads_one one (by simp [encode, c]) ⟨decide_eq_true c.2, rfl⟩) fun hd => ?_
    cases hd
  · exact reads_listedIf hd fun c => reads_one (by simp [parcelCount]) (by simp_all [encode]) ⟨rfl, rfl⟩
  · exact reads_listedIf hd fun c => reads_one (by simp [parcelCount]) (by simp_all [encode]) ⟨rfl, rfl⟩
  · exact reads_branchTo hd (by simp [parcelCount]) (fun t => by simp [encode]) fun _ => ⟨rfl, rfl⟩
  · exact reads_branchTo hd (by simp [parcelCount]) (fun t => by simp [encode]) fun _ => ⟨rfl, rfl⟩

theorem reads_decode01 (hd : decode01 (pack 1 h i j k) m = .ok ins) : Reads (pack 1 h i j k) m n ins := by
  simp only [decode01, hField_pack] at hd
  rcases octal_cases h with rfl | rfl | rfl | rfl | rfl | rfl | rfl | rfl <;>
  exact reads_branchTo hd (by simp [parcelCount]) (fun t => by simp [encode]) fun _ => ⟨rfl, rfl⟩

theorem reads_decode02 (hd : decode02 (pack 2 h i j k) m n = .ok ins) : Reads (pack 2 h i j k) m n ins := by
  simp only [decode02, hField_pack, iField_pack, jField_pack, kField_pack, jkField_pack, Bool.and_eq_true,
    beq_iff_eq] at hd
  rcases octal_cases h with rfl | rfl | rfl | rfl | rfl | rfl | rfl | rfl
  · exact reads_threeParcel hd (by simp [parcelCount]) (by simp [encode]) ⟨rfl, rfl⟩
  · exact reads_threeParcel hd (by simp [parcelCount]) (by simp [encode]) ⟨rfl, rfl⟩
  · exact reads_ok hd (reads_one (by simp [parcelCount]) (by simp [encode]) ⟨rfl, rfl⟩)
  · iterate 2
      refine reads_ite hd (fun c => reads_one (by simp [parcelCount]) (by simp [encode, c]) ⟨rfl, rfl⟩) fun hd => ?_
    cases hd
  · exact reads_ok hd (reads_one (by simp [parcelCount]) (by simp [encode]) ⟨rfl, rfl⟩)
  · exact reads_ok hd (reads_one (by simp [parcelCount]) (by simp [encode]) ⟨rfl, rfl⟩)
  · iterate 3
      refine reads_ite hd (fun c => reads_one (by simp [parcelCount]) (by simp [encode, c]) ⟨rfl, rfl⟩) fun hd => ?_
    cases hd
  · iterate 2
      refine reads_ite hd (fun c => reads_one (by simp [parcelCount]) (by simp [encode, c]) ⟨rfl, rfl⟩) fun hd => ?_
    cases hd

theorem reads_decode03 (hd : decode03 (pack 3 h i j k) = .ok ins) : Reads (pack 3 h i j k) m n ins := by
  have one : parcelCount (pack 3 h i j k) = 1 := by simp [parcelCount]
  simp only [decode03, hField_pack, iField_pack, jField_pack, kField_pack, jkField_pack, Bool.and_eq_true, beq_iff_eq,
    bne_iff_ne] at hd
  rcases octal_cases h with rfl | rfl | rfl | rfl | rfl | rfl | rfl | rfl
  case inr.inr.inr.inl =>
    refine reads_ite hd (fun c => reads_one one (by simp [encode, c]) ⟨rfl, rfl⟩) fun hd => ?_
    iterate 2
      refine reads_ite hd (fun c => reads_one one (by simp [encode, c]) ⟨bne_iff_ne.2 c.2, rfl⟩) fun hd => ?_
    cases hd
  all_goals exact reads_ok hd (reads_one one (by simp [encode]) ⟨rfl, rfl⟩)

theorem reads_decode04 (hd : decode04 (pack 4 h i j k) m n = .ok ins) : Reads (pack 4 h i j k) m n ins := by
  simp only [decode04, hField_pack, iField_pack, jField_pack, kField_pack, jkField_pack] at hd
  rcases octal_cases h with rfl | rfl | rfl | rfl | rfl | rfl | rfl | rfl
  · exact reads_threeParcel hd (by simp [parcelCount]) (by simp [encode]) ⟨rfl, rfl⟩
  · exact reads_threeParcel hd (by simp [parcelCount]) (by simp [encode]) ⟨rfl, rfl⟩
  all_goals exact reads_ok hd (reads_one (by simp [parcelCount]) (by simp [encode]) ⟨rfl, rfl⟩)

theorem reads_decode05 (hd : decode05 (pack 5 h i j k) = .ok ins) : Reads (pack 5 h i j k) m n ins := by
  simp only [decode05, hField_pack, iField_pack, jField_pack, kField_pack, jkField_pack] at hd
  rcases octal_cases h with rfl | rfl | rfl | rfl | rfl | rfl | rfl | rfl <;>
  exact reads_ok hd (reads_one (by simp [parcelCount]) (by simp [encode]) ⟨rfl, rfl⟩)

theorem reads_decode06 (hd : decode06 (pack 6 h i j k) = .ok ins) : Reads (pack 6 h i j k) m n ins := by
  simp only [decode06, hField_pack, iField_pack, jField_pack, kField_pack] at hd
  rcases octal_cases h with rfl | rfl | rfl | rfl | rfl | rfl | rfl | rfl <;>
  exact reads_ok hd (reads_one (by simp [parcelCount]) rfl ⟨rfl, rfl⟩)

theorem reads_decode07 (hd : decode07 (pack 7 h i j k) = .ok ins) : Reads (pack 7 h i j k) m n ins := by
  have one : parcelCount (pack 7 h i j k) = 1 := by simp [parcelCount]
  simp only [decode07, hField_pack, iField_pack, jField_pack, kField_pack, jkField_pack, Bool.and_eq_true,
    beq_iff_eq] at hd
  rcases octal_cases h with rfl | rfl | rfl | rfl | rfl | rfl | rfl | rfl
  · exact reads_listedIf hd fun c => reads_one one (by simp_all [encode]) ⟨rfl, rfl⟩
  · iterate 8 refine reads_ite hd (fun c => reads_one one (by simp [encode, c]) ⟨rfl, rfl⟩) fun hd => ?_
    cases hd
  · iterate 3 refine reads_ite hd (fun c => reads_one one (by simp [encode, c]) ⟨rfl, rfl⟩) fun hd => ?_
    cases hd
  · iterate 8 refine reads_ite hd (fun c => reads_one one (by simp [encode, c]) ⟨rfl, rfl⟩) fun hd => ?_
    cases hd
  all_goals exact reads_ok hd (reads_one one (by simp [encode]) ⟨rfl, rfl⟩)

theorem reads_decode14 (hd : decode14 (pack 12 h i j k) = .ok ins) : Reads (pack 12 h i j k) m n ins := by
  simp only [decode14, hField_pack, iField_pack, jField_pack, kField_pack] at hd
  rcases octal_cases h with rfl | rfl | rfl | rfl | rfl | rfl | rfl | rfl <;>
  exact reads_ok hd (reads_one (by simp [parcelCount]) rfl ⟨rfl, rfl⟩)

theorem reads_decode15 (hd : decode15 (pack 13 h i j k) = .ok ins) : Reads (pack 13 h i j k) m n ins := by
  simp only [decode15, hField_pack, iField_pack, jField_pack, kField_pack] at hd
  rcases octal_cases h with rfl | rfl | rfl | rfl | rfl | rfl | rfl | rfl <;>
  exact reads_ok hd (reads_one (by simp [parcelCount]) rfl ⟨rfl, rfl⟩)

theorem reads_decode16 (hd : decode16 (pack 14 h i j k) = .ok ins) : Reads (pack 14 h i j k) m n ins := by
  simp only [decode16, hField_pack, iField_pack, jField_pack, kField_pack] at hd
  rcases octal_cases h with rfl | rfl | rfl | rfl | rfl | rfl | rfl | rfl <;>
  exact reads_ok hd (reads_one (by simp [parcelCount]) rfl ⟨rfl, rfl⟩)

theorem reads_decode17 (hd : decode17 (pack 15 h i j k) = .ok ins) : Reads (pack 15 h i j k) m n ins := by
  have one : parcelCount (pack 15 h i j k) = 1 := by simp [parcelCount]
  simp only [decode17, hField_pack, iField_pack, jField_pack, kField_pack, Bool.and_eq_true, beq_iff_eq] at hd
  rcases octal_cases h with rfl | rfl | rfl | rfl | rfl | rfl | rfl | rfl
  case inr.inr.inr.inr.inl =>
    iterate 3 refine reads_ite hd (fun c => reads_one one (by simp [encode, c]) ⟨rfl, rfl⟩) fun hd => ?_
    cases hd
  case inr.inr.inr.inr.inr.inl =>
    iterate 8 refine reads_ite hd (fun c => reads_one one (by simp [encode, c]) ⟨rfl, rfl⟩) fun hd => ?_
    cases hd
  case inr.inr.inr.inr.inr.inr.inl =>
    iterate 2 refine reads_ite hd (fun c => reads_one one (by simp [encode, c]) ⟨rfl, rfl⟩) fun hd => ?_
    cases hd
  case inr.inr.inr.inr.inr.inr.inr =>
    iterate 2 refine reads_ite hd (fun c => reads_one one (by simp [encode, c]) ⟨rfl, rfl⟩) fun hd => ?_
    cases hd
  all_goals exact reads_ok hd (reads_one one rfl ⟨rfl, rfl⟩)

end

theorem hex_cases (g : BitVec 4) :
    g = 0 ∨ g = 1 ∨ g = 2 ∨ g = 3 ∨ g = 4 ∨ g = 5 ∨ g = 6 ∨ g = 7 ∨ g = 8 ∨ g = 9 ∨ g = 10 ∨ g = 11 ∨ g = 12 ∨
      g = 13 ∨ g = 14 ∨ g = 15 := by
  revert g
  decide

/-- Each listed word has one meaning: what is decoded encodes to the parcels read (30 R129, R131). -/
theorem reads_decodeParcels {p m n : Parcel} {i : Instr} (hd : decodeParcels p m n = .ok i) : Reads p m n i := by
  rw [← pack_fields p] at hd ⊢
  simp only [decodeParcels, gField_pack] at hd
  generalize gField p = g at hd ⊢
  rcases hex_cases g with
    rfl | rfl | rfl | rfl | rfl | rfl | rfl | rfl | rfl | rfl | rfl | rfl | rfl | rfl | rfl | rfl
  · exact reads_decode00 hd
  · exact reads_decode01 hd
  · exact reads_decode02 hd
  · exact reads_decode03 hd
  · exact reads_decode04 hd
  · exact reads_decode05 hd
  · exact reads_decode06 hd
  · exact reads_decode07 hd
  · exact reads_threeParcel hd (by simp [parcelCount]) (by simp [encode]) ⟨rfl, rfl⟩
  · exact reads_threeParcel hd (by simp [parcelCount]) (by simp [encode]) ⟨rfl, rfl⟩
  · exact reads_threeParcel hd (by simp [parcelCount]) (by simp [encode]) ⟨rfl, rfl⟩
  · exact reads_threeParcel hd (by simp [parcelCount]) (by simp [encode]) ⟨rfl, rfl⟩
  · exact reads_decode14 hd
  · exact reads_decode15 hd
  · exact reads_decode16 hd
  · exact reads_decode17 hd

theorem parcelCount_range (p : Parcel) : 1 ≤ parcelCount p ∧ parcelCount p ≤ 3 := by
  unfold parcelCount
  split <;> decide

/-- The first parcels of a list that is long enough. -/
theorem take_getD (p : Parcel) (rest : List Parcel) {c : Nat} (least : 1 ≤ c) (most : c ≤ 3) (long : c ≤ rest.length + 1) :
    [p, rest.getD 0 0, rest.getD 1 0].take c = (p :: rest).take c := by
  match rest, c, least, most, long with
  | _, 1, _, _, _ => rfl
  | _ :: _, 2, _, _, _ => rfl
  | _ :: _ :: _, 3, _, _, _ => rfl

/-- Settles O6: every row of every table reads the parcels its instruction encodes to. -/
theorem decodeThenEncode : Obligations.DecodeThenEncode := by
  intro ps i h
  match ps, h with
  | p :: rest, h =>
    simp only [decode] at h
    split at h
    · cases h
    · next long =>
      obtain ⟨row, formed, primary⟩ := reads_decodeParcels h
      obtain ⟨least, most⟩ := parcelCount_range p
      have whole : encode i = (p :: rest).take (parcelCount p) := by
        rw [row, take_getD p rest least most (by omega)]
      have count : i.parcels = parcelCount p := by
        rw [Instr.parcels, row, List.length_take]
        simp only [List.length_cons, List.length_nil]
        omega
      exact ⟨by rw [count, whole], formed, primary⟩

/-! ## From the encoder to the decoder -/

theorem listed_branch (g : BitVec 4) (h : BitVec 3) (target : BitVec 24) {make : BitVec 24 → Instr}
    (two : parcelCount (branchParcel g h target) = 2)
    (row : ∀ m n, decodeParcels (branchParcel g h target) m n = branchTo (branchParcel g h target) m make) :
    Listed [branchParcel g h target, branchLow target] (make target) := by
  intro rest
  simp [decode, two, row, branchTo]

theorem listed_exp (g : BitVec 4) (h i : BitVec 3) (exp : AWord) {make : AWord → Instr}
    (three : parcelCount (pack g h i 0 0) = 3)
    (row : ∀ m n, decodeParcels (pack g h i 0 0) m n = threeParcel (pack g h i 0 0) (make (expOf m n))) :
    Listed [pack g h i 0 0, expLow exp, expHigh exp] (make exp) := by
  intro rest
  have whole : ¬rest.length + 2 + 1 < 3 := by omega
  have zero : (jkField (pack g h i 0 0) == 0) = true := by
    rw [jkField_pack]
    rfl
  simp only [List.cons_append, List.nil_append, decode, three, List.length_cons, whole, if_false, row, threeParcel,
    zero, if_true, List.getD_cons_zero, List.getD_cons_succ, expOf_expLow_expHigh]

/-- The parcels of each row, from its pattern, are listed (30 R129). -/
theorem listed_encode {i : Instr} (spelled : i.isSpelling = false) (formed : i.wellFormed = true) :
    Listed (encode i) i := by
  cases i with
  | err | pass | cl | ci | mc | xa | rt | sip | cipi | cln | pci | cci | eci | dci | selectPerf | disablePortA
  | disablePortB | disablePortD | swapCheckBytes | replaceCheckBits | ivc | setVl | efi | dfi | eri | dri | dbm | ebm
  | cmr | setVm | ex | jumpB =>
    refine listed_of_parcelCount_one ?_ fun m n => ?_ <;> simp [parcelCount, decodeParcels, decode00, listedIf]
  | smTestSet | smClear | smSet =>
    refine listed_of_parcelCount_one ?_ fun m n => ?_
    · simp [parcelCount]
    · simpa [decodeParcels, decode00, Instr.wellFormed] using formed
  | ca j k =>
    refine listed_of_parcelCount_one ?_ fun m n => ?_
    · simp [parcelCount]
    · have fields : j = 0 → ¬k = 0 := imp_iff_not_or.2 (by simpa [Instr.wellFormed] using formed)
      have number : j ++ k ≠ (0 : BitVec 6) := by
        revert j k
        decide
      simp_all [decodeParcels, decode00]
  | jump | returnJump => exact listed_branch _ _ _ (by simp [parcelCount]) fun m n => by simp [decodeParcels, decode00]
  | jaz | jan | jap | jam | jsz | jsn | jsp | jsm =>
    exact listed_branch _ _ _ (by simp [parcelCount]) fun m n => by simp [decodeParcels, decode01]
  | aExp | aExpNot => exact listed_exp _ _ _ _ (by simp [parcelCount]) fun m n => by simp [decodeParcels, decode02]
  | aShort | aFromS | aFromVl | aFromB | bFromA | aPop | aParity | aFromSb | aLzc | sbFromA =>
    refine listed_of_parcelCount_one ?_ fun m n => ?_ <;> simp [parcelCount, decodeParcels, decode02]
  | aAdd | aSub | aMul | aChanInt | loadB | storeB | loadT | storeT =>
    refine listed_of_parcelCount_one ?_ fun m n => ?_ <;> simp [parcelCount, decodeParcels, decode03]
  | aChanAddr i j | aChanErr i j =>
    refine listed_of_parcelCount_one ?_ fun m n => ?_
    · simp [parcelCount]
    · have hj : j ≠ 0 := by simpa [Instr.wellFormed] using formed
      simp_all [decodeParcels, decode03]
  | sExp | sExpNot => exact listed_exp _ _ _ _ (by simp [parcelCount]) fun m n => by simp [decodeParcels, decode04]
  | sMaskRight | sMaskLeft | sAnd | sAndNot | sXor | sXnor =>
    refine listed_of_parcelCount_one ?_ fun m n => ?_ <;> simp [parcelCount, decodeParcels, decode04]
  | sMerge | sOr | s0ShiftLeft | s0ShiftRight | sShiftLeft | sShiftRight | sDoubleLeft | sDoubleRight =>
    refine listed_of_parcelCount_one ?_ fun m n => ?_ <;> simp [parcelCount, decodeParcels, decode05]
  | sAdd | sSub | sFadd | sFsub | sFmul | sFmulH | sFmulR | sRecipIter =>
    refine listed_of_parcelCount_one ?_ fun m n => ?_ <;> simp [parcelCount, decodeParcels, decode06]
  | sRecip | sFromA | sFromASigned | sFloatFromA | sThreeQuarters | sHalf | sOne | sTwo | sFour | sFromRt | sFromSm
  | sFromSt | sFromVm | sFromSr0 | smFromS | stFromS | readPerf | incPerfUpper | clearMaint | incPerfLower | sFromT
  | tFromS | sFromV | vFromS =>
    refine listed_of_parcelCount_one ?_ fun m n => ?_ <;> simp [parcelCount, decodeParcels, decode07, listedIf]
  | loadA => exact listed_exp _ _ _ _ (by simp [parcelCount]) fun m n => by simp [decodeParcels, decode10]
  | storeA => exact listed_exp _ _ _ _ (by simp [parcelCount]) fun m n => by simp [decodeParcels, decode11]
  | loadS => exact listed_exp _ _ _ _ (by simp [parcelCount]) fun m n => by simp [decodeParcels, decode12]
  | storeS => exact listed_exp _ _ _ _ (by simp [parcelCount]) fun m n => by simp [decodeParcels, decode13]
  | vsAnd | vvAnd | vsOr | vvOr | vsXor | vvXor | vsMerge | vvMerge =>
    refine listed_of_parcelCount_one ?_ fun m n => ?_ <;> simp [parcelCount, decodeParcels, decode14]
  | vShiftLeft | vShiftRight | vDoubleLeft | vDoubleRight | vsAdd | vvAdd | vsSub | vvSub =>
    refine listed_of_parcelCount_one ?_ fun m n => ?_ <;> simp [parcelCount, decodeParcels, decode15]
  | vsFmul | vvFmul | vsFmulH | vvFmulH | vsFmulR | vvFmulR | vsImul32 | vvRecipIter =>
    refine listed_of_parcelCount_one ?_ fun m n => ?_ <;> simp [parcelCount, decodeParcels, decode16]
  | vsFadd | vvFadd | vsFsub | vvFsub | vRecip | vPop | vParity | vmZero | vmNonzero | vmPlus | vmMinus | vmZeroIdx
  | vmNonzeroIdx | vmPlusIdx | vmMinusIdx | vLoad | vGather | vStore | vScatter =>
    refine listed_of_parcelCount_one ?_ fun m n => ?_ <;> simp [parcelCount, decodeParcels, decode17]
  | _ => cases spelled

/-- Parcels written out are listed when they are those of a row, field by field. -/
theorem listed_row {ps : List Parcel} {i : Instr} (row : encode i = ps) (spelled : i.isSpelling = false := by rfl)
    (formed : i.wellFormed = true := by rfl) : Listed ps i :=
  row ▸ listed_encode spelled formed

/-- Settles O5: a second spelling has the parcels of the instruction it spells, and each row's parcels are listed. -/
theorem encodeThenDecode : Obligations.EncodeThenDecode := by
  intro i rest formed
  rw [encode_primary]
  exact listed_encode (isSpelling_primary i) (wellFormed_primary formed) rest

/-- Settles O7: each written word is evaluated. -/
theorem writtenWordsDecode : Obligations.WrittenWordsDecode := by
  refine ⟨rfl, rfl, rfl, rfl, rfl, rfl, rfl, rfl, rfl, rfl, rfl, rfl, rfl, rfl, rfl, rfl⟩

end Sys2Proof.Encoding

/-! PROOFS. What a second spelling does, the operand readers and the data address (30 R134, 00 R9, 20 R87). -/

namespace Sys2Proof.Spelling

open Sys2Proof Sys2Proof.Machine Sys2Proof.Safety Sys2Proof.Encoding

/-! ## Constants in the place of a field -/

section
variable (s : State) (k : BitVec 3) (exp : AWord)

theorem readAj_zero : readAj s 0 = 0 := rfl

theorem readAk_zero : readAk s 0 = 1 := rfl

theorem readSj_zero : readSj s 0 = 0 := rfl

theorem effectiveAddress_zero_base : effectiveAddress 0 exp s = exp := BitVec.zero_add exp

theorem effectiveAddress_zero_offset : effectiveAddress k 0 s = readAh s k := BitVec.add_zero (readAh s k)

theorem ncpu_pos (y : System) : 0 < ncpu y := by
  obtain ⟨_ | _ | _, _, _⟩ := y <;> simp only [ncpu, processorModules] <;> omega

end

/-- A spelling whose fixed field reads a constant has the meaning of its instruction by evaluation; the others simplify
the operation on that constant. -/
theorem exec_primary (i : Instr) (s : State) : exec i s = exec i.primary s := by
  cases i with
  | sipi => exact congrArg (privileged s) (if_pos (ncpu_pos s.sys)).symm
  | aCopy i k => exact congrArg (finishA i · 1 s) (BitVec.zero_add (readAk s k)).symm
  | aNeg i k => exact congrArg (finishA i · 1 s) (BitVec.zero_sub (readAk s k)).symm
  | sNot i k => exact congrArg (fun w => finishS i (~~~w) 1 s) (BitVec.zero_xor (x := readSk s k)).symm
  | sNotSign i => exact congrArg (fun w => finishS i (~~~w) 1 s) (BitVec.zero_xor (x := signBit)).symm
  | sCopy i k => exact congrArg (finishS i · 1 s) (BitVec.zero_or (x := readSk s k)).symm
  | sSignBit i => exact congrArg (finishS i · 1 s) (BitVec.zero_or (x := signBit)).symm
  | sLeftByA i k => exact congrArg (finishS i · 1 s) (doubleLeft_zero (reg s.s i) (readAk s k).toNat).symm
  | sRightByA i k => exact congrArg (finishS i · 1 s) (doubleRight_zero (reg s.s i) (readAk s k).toNat).symm
  | sNeg i k => exact congrArg (finishS i · 1 s) (BitVec.zero_sub (readSk s k)).symm
  | loadAAbs i exp | loadAAbs2 i exp =>
    exact congrArg (scalarLoad · (writeA i) s) (effectiveAddress_zero_base s exp).symm
  | loadSAbs i exp | loadSAbs2 i exp =>
    exact congrArg (scalarLoad · (writeS i) s) (effectiveAddress_zero_base s exp).symm
  | storeAAbs i exp | storeAAbs2 i exp =>
    exact congrArg (scalarStore · ((reg s.a i).setWidth 64) s) (effectiveAddress_zero_base s exp).symm
  | storeSAbs i exp | storeSAbs2 i exp =>
    exact congrArg (scalarStore · (reg s.s i) s) (effectiveAddress_zero_base s exp).symm
  | loadAInd h i => exact congrArg (scalarLoad · (writeA i) s) (effectiveAddress_zero_offset s h).symm
  | loadSInd h i => exact congrArg (scalarLoad · (writeS i) s) (effectiveAddress_zero_offset s h).symm
  | storeAInd h i =>
    exact congrArg (scalarStore · ((reg s.a i).setWidth 64) s) (effectiveAddress_zero_offset s h).symm
  | storeSInd h i => exact congrArg (scalarStore · (reg s.s i) s) (effectiveAddress_zero_offset s h).symm
  | vCopy i k => exact congrArg (finishV i · s) (funext fun e => (BitVec.zero_or (x := element s k e)).symm)
  | vClear i => exact congrArg (finishV i · s) (funext fun e => (BitVec.xor_self (x := element s i e)).symm)
  | vNeg i k => exact congrArg (finishV i · s) (funext fun e => (BitVec.zero_sub (element s k e)).symm)
  | _ => rfl

/-- Settles O9: the parcels agree row by row, the meanings instruction by instruction. -/
theorem spellingsMeanTheirInstruction : Obligations.SpellingsMeanTheirInstruction :=
  ⟨encode_primary, exec_primary, fun i => ⟨isSpelling_primary i, primary_of_not_spelling⟩⟩

/-- Settles O10: a field decides whether the constant or the register is read, and the bounds of a data address are those
of its definition. -/
theorem operandsAndAddresses : Obligations.OperandsAndAddresses := by
  intro s n l
  refine ⟨⟨rfl, readAj_zero s, readAk_zero s, readSj_zero s, rfl⟩,
    fun h => ⟨if_neg h, if_neg h, if_neg h, if_neg h, if_neg h⟩, rfl, ?_⟩
  rw [dataInRange, Bool.and_eq_true, decide_eq_true_eq, decide_eq_true_eq]
  rfl

end Sys2Proof.Spelling

/-! PROOFS. The invariant of legal states, operation by operation (10_state, 20_memory, 60_exceptions). -/

namespace Sys2Proof.Invariant

open Sys2Proof Sys2Proof.Machine Sys2Proof.Safety

/-! ## Bytes listed in memory -/

theorem mem_writeBytes (vs : List Byte) : ∀ {m : List Host.Cell} {a : Nat} {c : Host.Cell},
    c ∈ writeBytes m a vs → c ∈ m ∨ (a ≤ c.1 ∧ c.1 < a + vs.length) := by
  induction vs with
  | nil => exact fun h => Or.inl h
  | cons v vs ih =>
    intro m a c h
    simp only [List.length_cons]
    rcases ih h with h | h
    · rcases mem_writeByte h with rfl | h
      · exact Or.inr ⟨Nat.le_refl _, by dsimp only; omega⟩
      · exact Or.inl h
    · exact Or.inr (by omega)

theorem mem_writeWord {m : List Host.Cell} {a : Nat} {w : Word} {c : Host.Cell} (h : c ∈ writeWord m a w) :
    c ∈ m ∨ c.1 / 8 = a := by
  rcases mem_writeBytes _ h with h | h
  · exact Or.inl h
  · have : (wordBytes w).length = 8 := rfl
    exact Or.inr (by omega)

theorem mem_writeWords (ws : List Word) : ∀ {m : List Host.Cell} {a : Nat} {c : Host.Cell},
    c ∈ writeWords m a ws → c ∈ m ∨ c.1 / 8 < a + ws.length := by
  induction ws with
  | nil => exact fun h => Or.inl h
  | cons w ws ih =>
    intro m a c h
    simp only [List.length_cons]
    rcases ih h with h | h
    · rcases mem_writeWord h with h | h
      · exact Or.inl h
      · exact Or.inr (by omega)
    · exact Or.inr (by omega)

theorem mem_performList (ws : List (Nat × Word)) : ∀ {m : List Host.Cell} {c : Host.Cell},
    c ∈ performList m ws → c ∈ m ∨ ∃ e ∈ ws, c.1 / 8 = e.1 := by
  induction ws with
  | nil => exact fun h => Or.inl h
  | cons e ws ih =>
    intro m c h
    rcases ih h with h | ⟨x, hx, h⟩
    · rcases mem_writeWord h with h | h
      · exact Or.inl h
      · exact Or.inr ⟨e, List.mem_cons_self, h⟩
    · exact Or.inr ⟨x, List.mem_cons_of_mem _ hx, h⟩

/-! ## Cache lines -/

theorem mem_cacheInsert {c : List (Nat × Word)} {a : Nat} {v : Word} {e : Nat × Word} (h : e ∈ cacheInsert c a v) :
    e = (a, v) ∨ e ∈ c := by
  induction c with
  | nil => exact Or.inl (by simpa [cacheInsert] using h)
  | cons x rest ih =>
    obtain ⟨b, w⟩ := x
    simp only [cacheInsert] at h
    split_ifs at h
    · exact List.mem_cons.1 h
    · exact (List.mem_cons.1 h).imp id (List.mem_cons_of_mem _)
    · rcases List.mem_cons.1 h with rfl | h
      · exact Or.inr List.mem_cons_self
      · exact (ih h).imp id (List.mem_cons_of_mem _)

theorem pairwise_cacheInsert {c : List (Nat × Word)} (a : Nat) (v : Word) (h : c.Pairwise fun x y => x.1 < y.1) :
    (cacheInsert c a v).Pairwise fun x y => x.1 < y.1 := by
  induction c with
  | nil => simp [cacheInsert]
  | cons x rest ih =>
    obtain ⟨b, w⟩ := x
    obtain ⟨above, rising⟩ := List.pairwise_cons.1 h
    simp only [cacheInsert]
    split_ifs with below same
    · refine List.pairwise_cons.2 ⟨fun e he => ?_, h⟩
      rcases List.mem_cons.1 he with rfl | he
      · exact below
      · exact Nat.lt_trans below (above e he)
    · exact List.pairwise_cons.2 ⟨fun e he => same ▸ above e he, rising⟩
    · refine List.pairwise_cons.2 ⟨fun e he => ?_, ih rising⟩
      rcases mem_cacheInsert he with rfl | he
      · show b < a
        omega
      · exact above e he

theorem length_cacheInsert_le (c : List (Nat × Word)) (a : Nat) (v : Word) :
    (cacheInsert c a v).length ≤ c.length + 1 := by
  induction c with
  | nil => simp [cacheInsert]
  | cons x rest ih =>
    simp only [cacheInsert]
    split_ifs <;> simp only [List.length_cons] <;> omega

theorem cacheFind_eq_none_of_lt {c : List (Nat × Word)} {a : Nat} (h : ∀ e ∈ c, a < e.1) : cacheFind c a = none := by
  induction c with
  | nil => rfl
  | cons x rest ih =>
    have here : a ≠ x.1 := Nat.ne_of_lt (h x List.mem_cons_self)
    simp only [cacheFind, here, if_false]
    exact ih fun e he => h e (List.mem_cons_of_mem _ he)

/-- A line put over a line of the same address adds none. -/
theorem length_cacheInsert_of_found {c : List (Nat × Word)} {a : Nat} (v : Word)
    (order : c.Pairwise fun x y => x.1 < y.1) (found : (cacheFind c a).isSome = true) :
    (cacheInsert c a v).length = c.length := by
  induction c with
  | nil => simp [cacheFind] at found
  | cons x rest ih =>
    obtain ⟨b, w⟩ := x
    obtain ⟨above, rising⟩ := List.pairwise_cons.1 order
    simp only [cacheInsert]
    split_ifs with below same
    · have absent : cacheFind ((b, w) :: rest) a = none := by
        refine cacheFind_eq_none_of_lt fun e he => ?_
        rcases List.mem_cons.1 he with rfl | he
        · exact below
        · exact Nat.lt_trans below (above e he)
      rw [absent] at found
      cases found
    · rfl
    · simp only [cacheFind, same, if_false] at found
      simp only [List.length_cons, ih rising found]

theorem cacheKeep_cases (s : State) (a : Nat) (v : Word) :
    cacheKeep s a v = s.cache ∨
      (s.ce = true ∧ ((cacheFind s.cache a).isSome = true ∨ s.cache.length < Config.cacheLines) ∧
        cacheKeep s a v = cacheInsert s.cache a v) := by
  unfold cacheKeep
  split_ifs with off kept
  · exact Or.inl rfl
  · exact Or.inr ⟨by simpa using off, by simpa using kept, rfl⟩
  · exact Or.inl rfl

/-! ## Words known to be stored into -/

theorem mem_markStored {a b : Nat} {l : List Nat} : b ∈ markStored a l ↔ b ∈ l ∨ b = a := by
  unfold markStored
  split_ifs with h
  · exact ⟨Or.inl, fun hb => hb.elim id fun e => e ▸ by simpa using h⟩
  · rw [List.mem_cons, or_comm]

/-! ## Legal states -/

/-- The invariant speaks of these fields alone. -/
theorem legal_congr {s t : State} (h : Legal s) (mem : t.mem = s.mem := by rfl) (sys : t.sys = s.sys := by rfl)
    (vl : t.vl = s.vl := by rfl) (cache : t.cache = s.cache := by rfl) (ce : t.ce = s.ce := by rfl)
    (pending : t.pending = s.pending := by rfl) (stored : t.ibufStored = s.ibufStored := by rfl)
    (mm : t.modes.mm = s.modes.mm := by rfl) (flags : t.flags = s.flags := by rfl) (maint : t.maint = s.maint := by rfl)
    (ws : t.ws = s.ws := by rfl) (held : t.held = s.held := by rfl) (pn : t.pn = s.pn := by rfl) : Legal t where
  memory := mem ▸ h.memory
  inMemory := by rw [mem, sys]; exact h.inMemory
  length := vl ▸ h.length
  cacheSize := cache ▸ h.cacheSize
  cacheOrder := cache ▸ h.cacheOrder
  cacheOff := by rw [cache, ce]; exact h.cacheOff
  queued := by rw [pending, stored, sys]; exact h.queued
  flagsClear := by rw [mm, flags]; exact h.flagsClear
  noMaintenance := maint ▸ h.noMaintenance
  waiting := by rw [ws, held]; exact h.waiting
  number := by rw [pn, sys]; exact h.number

theorem legal_cache {s : State} {c : List (Nat × Word)} (h : Legal s) (size : c.length ≤ Config.cacheLines)
    (order : c.Pairwise fun x y => x.1 < y.1) (off : s.ce = false → c = []) : Legal { s with cache := c } :=
  { h with cacheSize := size, cacheOrder := order, cacheOff := off }

theorem legal_cacheDrop {s : State} (a : Nat) (h : Legal s) : Legal { s with cache := cacheDrop s.cache a } :=
  legal_cache h ((List.length_filter_le _ _).trans h.cacheSize) (h.cacheOrder.filter _) fun off => by
    rw [h.cacheOff off]
    rfl

theorem legal_cacheEmpty {s : State} (h : Legal s) : Legal { s with cache := [] } :=
  legal_cache h (Nat.zero_le _) List.Pairwise.nil fun _ => rfl

theorem legal_cacheKeep {s : State} (a : Nat) (v : Word) (h : Legal s) : Legal { s with cache := cacheKeep s a v } := by
  rcases cacheKeep_cases s a v with same | ⟨on, room, kept⟩
  · rw [same]
    exact h
  · rw [kept]
    refine legal_cache h ?_ (pairwise_cacheInsert a v h.cacheOrder) fun off => absurd (off.symm.trans on) (by decide)
    rcases room with found | room
    · rw [length_cacheInsert_of_found v h.cacheOrder found]
      exact h.cacheSize
    · exact (length_cacheInsert_le _ _ _).trans room

/-- Performing some of the writes in flight, and keeping the others or some of them. -/
theorem legal_perform {s : State} {now later : List (Nat × Word)} (h : Legal s) (hn : ∀ e ∈ now, e ∈ s.pending)
    (hl : ∀ e ∈ later, e ∈ s.pending) : Legal { s with mem := performList s.mem now, pending := later } :=
  { h with
    memory := performList_wf _ h.memory
    inMemory := fun c hc => by
      rcases mem_performList _ hc with hc | ⟨e, he, hc⟩
      · exact h.inMemory c hc
      · have := (h.queued e (hn e he)).1
        show c.1 < 8 * memWords s.sys
        omega
    queued := fun e he => h.queued e (hl e he) }

theorem legal_performSection {s : State} (k : Nat) (h : Legal s) : Legal (performSection k s) :=
  legal_perform h (fun _ he => (List.mem_filter.1 he).1) fun _ he => (List.mem_filter.1 he).1

theorem legal_performAll {s : State} (h : Legal s) : Legal (performAll s) :=
  legal_perform h (fun _ he => he) fun _ he => nomatch he

theorem legal_performOldest {s : State} (k : Nat) (h : Legal s) : Legal (performOldest k s) := by
  unfold performOldest
  split
  · next e found =>
    refine legal_perform (now := [e]) h (fun x hx => ?_) fun x hx => List.mem_of_mem_eraseP hx
    rw [List.mem_singleton.1 hx]
    exact List.mem_of_find?_eq_some found
  · exact h

/-- A store by another agent to a word that exists. -/
theorem legal_storeByOther {s : State} {a : Nat} (w : Word) (h : Legal s) (ha : a < memWords s.sys) :
    Legal (storeByOther s a w) :=
  { h with
    memory := writeWord_wf _ _ h.memory
    inMemory := fun c hc => by
      rcases mem_writeWord hc with hc | hc
      · exact h.inMemory c hc
      · show c.1 < 8 * memWords s.sys
        omega
    queued := fun e he => ⟨(h.queued e he).1, mem_markStored.2 (Or.inl (h.queued e he).2)⟩ }

theorem legal_absWrite {s u : State} {a : Nat} {v : Word} (h : Legal s) (hu : absWrite a v s = .done u) : Legal u := by
  obtain ⟨ha, rfl⟩ := absWrite_done hu
  refine { h with queued := fun e he => ?_ }
  rcases List.mem_append.1 he with he | he
  · exact ⟨(h.queued e he).1, mem_markStored.2 (Or.inl (h.queued e he).2)⟩
  · rw [List.mem_singleton.1 he]
    exact ⟨ha, mem_markStored.2 (Or.inr rfl)⟩

theorem legal_eventEffect {s : State} (e : Event) (h : Legal s) : Legal (eventEffect s e) := by
  cases e with
  | perform sec => exact legal_performOldest _ h
  | deliver => simp only [eventEffect, deliverOldest]; split <;> exact legal_congr h
  | clockRequest => simp only [eventEffect]; split <;> exact legal_congr h
  | lineLost a => exact legal_cacheDrop a h
  | cacheInvalidated =>
    simp only [eventEffect]
    split
    · exact legal_congr (legal_cacheEmpty h)
    · exact h
  | channelWord n w =>
    simp only [eventEffect, moveChannelWord]
    split
    · next moves =>
      simp only [Bool.and_eq_true, decide_eq_true_eq] at moves
      split
      · exact legal_storeByOther w (legal_congr h) moves.2
      · exact legal_congr h
    · exact h
  | channelDone n err => simp only [eventEffect, finishChannel]; split <;> exact legal_congr h
  | deviceReady n => simp only [eventEffect]; split <;> exact legal_congr h
  | peerStore a w =>
    simp only [eventEffect]
    split
    · next exists_ => exact legal_storeByOther w h exists_
    · exact h
  | peerInterruptCleared n => simp only [eventEffect]; split <;> exact legal_congr h
  | peerInvalidated n => simp only [eventEffect]; split <;> exact legal_congr h
  | peerStatus n st => simp only [eventEffect]; split <;> exact legal_congr h
  | rtcAdvance _ | peerShared _ | peerClock _ | peerChannel _ _ | peerInterrupt _ | peerInvalidate _ =>
    exact legal_congr h

theorem legal_environment {s : State} (h : Legal s) : Legal (environment s) :=
  environment_keeps (P := Legal) (fun _ _ _ h => legal_congr h) (fun _ e h => legal_eventEffect e h) h

/-- An exchange loads VL in its range and FLAGS with its mode, and empties the cache, the buffers and the hold. -/
theorem legal_swapPackage {xa : BitVec 10} {saved : List Word} {s t : State} (h : Legal s) (done : s.pending = [])
    (sixteen : saved.length = 16) (hx : swapPackage xa saved s = .next t) : Legal t := by
  obtain ⟨new, inside, _, rfl, least, most, clear⟩ := swapPackage_next hx
  refine ⟨writeWords_wf _ _ h.memory, fun c hc => ?_, ⟨least, most⟩, Nat.zero_le _, List.Pairwise.nil, fun _ => rfl,
    fun e he => ?_, clear, h.noMaintenance, rfl, h.number⟩
  · rcases mem_writeWords _ hc with hc | hc
    · exact h.inMemory c hc
    · show c.1 < 8 * memWords s.sys
      omega
  · change e ∈ s.pending at he
    rw [done] at he
    cases he

theorem legal_exchange {f : Flags} {s t : State} (h : Legal s) (hx : exchange f s = .next t) : Legal t :=
  legal_swapPackage (s := { drawReport (performAll s) with seq := (drawReport (performAll s)).seq + 8 })
    (legal_congr (legal_performAll h)) rfl (packPackage_length _ _) hx

theorem legal_deadstart {s t : State} (h : Legal s) (hx : deadstart s = .next t) : Legal t :=
  legal_swapPackage (s := { performAll s with seq := s.seq + 16, running := true })
    (legal_congr (legal_performAll h)) rfl (by simp) hx

end Sys2Proof.Invariant

/-! PROOFS. What every instruction and every step keeps (60_exceptions, section 7). -/

namespace Sys2Proof.Invariant

open Sys2Proof Sys2Proof.Machine Sys2Proof.Safety Sys2Proof.Encoding Sys2Proof.Spelling

/-! ## What an instruction keeps but by an exchange -/

/-- What every instruction keeps in either mode (60 R533, R535). -/
structure KeepsControl (s t : State) : Prop where
  legal : Legal s → Legal t
  pn : t.pn = s.pn := by rfl
  sys : t.sys = s.sys := by rfl
  mm : t.modes.mm = s.modes.mm := by rfl
  sei : t.modes.sei = s.modes.sei := by rfl
  rest : t.modes.rest = s.modes.rest := by rfl
  iba : t.iba = s.iba := by rfl
  ila : t.ila = s.ila := by rfl
  dba : t.dba = s.dba := by rfl
  dla : t.dla = s.dla := by rfl
  flags : t.flags = s.flags := by rfl
  ce : t.ce = s.ce := by rfl

/-- What only a privileged instruction changes (30 R135), the other agents at rest. -/
structure KeepsSystem (s t : State) : Prop where
  xa : t.xa = s.xa := by rfl
  cln : t.cln = s.cln := by rfl
  ii : t.ii = s.ii := by rfl
  pciEnable : t.pciEnable = s.pciEnable := by rfl
  perf : t.perf = s.perf := by rfl
  maint : t.maint = s.maint := by rfl
  quiet : s.inputs = [] → t.inputs = [] ∧ t.rtc = s.rtc ∧ t.chans = s.chans ∧ t.pciRequest = s.pciRequest ∧
    t.ipiPending = s.ipiPending := by exact fun h => ⟨h, rfl, rfl, rfl, rfl⟩

/-- Both, and the other mode bits too. -/
structure Keeps (s t : State) : Prop extends KeepsControl s t, KeepsSystem s t where
  modes : t.modes = s.modes := by rfl

theorem keeps_refl (s : State) : Keeps s s :=
  { legal := id }

theorem keeps_trans {s t u : State} (h : Keeps s t) (g : Keeps t u) : Keeps s u where
  legal := g.legal ∘ h.legal
  pn := g.pn.trans h.pn
  sys := g.sys.trans h.sys
  mm := g.mm.trans h.mm
  sei := g.sei.trans h.sei
  rest := g.rest.trans h.rest
  iba := g.iba.trans h.iba
  ila := g.ila.trans h.ila
  dba := g.dba.trans h.dba
  dla := g.dla.trans h.dla
  flags := g.flags.trans h.flags
  ce := g.ce.trans h.ce
  xa := g.xa.trans h.xa
  cln := g.cln.trans h.cln
  ii := g.ii.trans h.ii
  pciEnable := g.pciEnable.trans h.pciEnable
  perf := g.perf.trans h.perf
  maint := g.maint.trans h.maint
  modes := g.modes.trans h.modes
  quiet rest := by
    obtain ⟨inputs, rtc, chans, request, ipi⟩ := h.quiet rest
    obtain ⟨inputs', rtc', chans', request', ipi'⟩ := g.quiet inputs
    exact ⟨inputs', rtc'.trans rtc, chans'.trans chans, request'.trans request, ipi'.trans ipi⟩

/-- Writing A, S, B, T, V, VM and P, with what draws are made, is no change of the machine's control. -/
theorem keeps_registers {s t : State}
    (h : t = { s with a := t.a, s := t.s, b := t.b, t := t.t, v := t.v, vm := t.vm, p := t.p, seq := t.seq }) :
    Keeps s t := by
  rw [h]
  exact { legal := fun g => legal_congr g }

theorem keeps_advance (n : Nat) (s : State) : Keeps s (advance n s) := keeps_registers rfl

theorem keeps_environment (s : State) : Keeps s (environment s) where
  legal := legal_environment
  pn := environment_pn s
  sys := environment_sys s
  mm := congrArg Modes.mm (environment_modes s)
  sei := congrArg Modes.sei (environment_modes s)
  rest := congrArg Modes.rest (environment_modes s)
  iba := environment_iba s
  ila := environment_ila s
  dba := environment_dba s
  dla := environment_dla s
  flags := environment_flags s
  ce := environment_ce s
  xa := environment_xa s
  cln := environment_cln s
  ii := environment_ii s
  pciEnable := environment_pciEnable s
  perf := environment_perf s
  maint := environment_maint s
  modes := environment_modes s
  quiet rest := by
    rw [environment_of_no_inputs rest]
    exact ⟨rest, rfl, rfl, rfl, rfl⟩

/-! ## Memory -/

theorem keeps_absRead {a : Nat} {s u : State} {w : Word} (h : absRead a s = .done (w, u)) : Keeps s u := by
  obtain ⟨-, rfl, -⟩ := absRead_done h
  exact { legal := legal_performSection _ }

theorem keeps_absWrite {a : Nat} {v : Word} {s u : State} (h : absWrite a v s = .done u) : Keeps s u := by
  have legal (g : Legal s) : Legal u := legal_absWrite g h
  obtain ⟨-, rfl⟩ := absWrite_done h
  exact { legal := legal }

theorem keeps_cacheKeep (s : State) (a : Nat) (v : Word) : Keeps s { s with cache := cacheKeep s a v } :=
  { legal := legal_cacheKeep a v }

theorem keeps_scalarRead {l : AWord} {s u : State} {w : Word} (h : scalarRead l s = .done (w, u)) : Keeps s u := by
  rcases (scalarRead_done h).2 with ⟨-, -, rfl⟩ | ⟨r, hr, rfl⟩
  · exact keeps_refl u
  · exact keeps_trans (keeps_absRead hr) (keeps_cacheKeep r _ _)

theorem keeps_scalarWrite {l : AWord} {v : Word} {s u : State} (h : scalarWrite l v s = .done u) : Keeps s u := by
  obtain ⟨-, r, hr, rfl⟩ := scalarWrite_done h
  exact keeps_trans (keeps_absWrite hr) (keeps_cacheKeep r _ _)

theorem keeps_uncachedRead {l : AWord} {s u : State} {w : Word} (h : uncachedRead l s = .done (w, u)) : Keeps s u :=
  keeps_absRead (uncachedRead_done h).2

theorem keeps_blockWrite {l : AWord} {v : Word} {s u : State} (h : blockWrite l v s = .done u) : Keeps s u :=
  keeps_absWrite (blockWrite_done h).2

theorem keeps_vectorWrite {l : AWord} {v : Word} {s u : State} (h : vectorWrite l v s = .done u) : Keeps s u := by
  obtain ⟨-, r, hr, rfl⟩ := vectorWrite_done h
  exact keeps_trans (keeps_absWrite hr) { legal := legal_cacheDrop _ }

theorem keeps_deliverAll (s : State) : Keeps s (deliverAll s) :=
  { legal := fun h => legal_congr h }

/-! ## The ways an instruction leaves a state -/

/-- An instruction keeps the control state, and outside monitor mode the system's registers, or it takes an exchange for
a cause of its own from a state that kept both. -/
inductive Leaves (s t : State) : Prop where
  | goesOn (control : KeepsControl s t) (system : s.modes.mm = false → KeepsSystem s t)
  | raises (cause : Flags) (u : State) (own : cause ∈ [causeDl, causeFpe, causeOre, causeEex, causeNex])
      (taken : raise cause u = .next t) (kept : Keeps s u)

theorem leaves_keeps {s t : State} (h : Keeps s t) : Leaves s t :=
  .goesOn h.toKeepsControl fun _ => h.toKeepsSystem

section
variable {s t : State}

/-- An instruction that ends in a state of its own making. -/
theorem leaves_next {u : State} (kept : Keeps s u) (h : Host.Outcome.next u = (.next t : Result)) : Leaves s t := by
  cases h
  exact leaves_keeps kept

theorem leaves_registers {u : State} (h : Host.Outcome.next u = (.next t : Result))
    (kept : u = { s with a := u.a, s := u.s, b := u.b, t := u.t, v := u.v, vm := u.vm, p := u.p, seq := u.seq } := by
      rfl) : Leaves s t :=
  leaves_next (keeps_registers kept) h

theorem leaves_modes {u : State} (h : Host.Outcome.next u = (.next t : Result)) (control : KeepsControl s u)
    (system : KeepsSystem s u) : Leaves s t := by
  cases h
  exact .goesOn control fun _ => system

theorem leaves_branchIf {taken : Bool} {target : BitVec 24} (h : branchIf taken target s = .next t) : Leaves s t := by
  unfold branchIf at h
  split at h <;> exact leaves_registers h

/-- A privileged instruction in monitor mode, and its other half outside (60 R533, R534). -/
theorem leaves_privileged {effect : Result} (h : privileged s effect = .next t)
    (control : effect = .next t → KeepsControl s t) : Leaves s t := by
  rcases privileged_next h with ⟨monitor, h⟩ | ⟨-, rfl⟩
  · exact .goesOn (control h) fun user => absurd (user.symm.trans monitor) (by decide)
  · exact leaves_keeps (keeps_advance 1 s)

theorem keepsControl_commandNamed {number : AWord} {c : ChannelCommand} (h : commandNamed number c s = .next t) :
    KeepsControl s t := by
  obtain ⟨n, -, rfl⟩ := commandNamed_next h
  exact { legal := fun g => legal_congr g }

theorem leaves_sharedWrite {write : Fin Config.maxClusters → SharedWrite} (h : sharedWrite s write = .next t) :
    Leaves s t := by
  obtain ⟨c, -, rfl⟩ := sharedWrite_next h
  exact leaves_keeps { legal := fun g => legal_congr g }

theorem leaves_sharedRead {use : Cluster → State → Result} (registers : ∀ c u, use c u = .next t → Keeps u t)
    (h : sharedRead s use = .next t) : Leaves s t := by
  obtain ⟨c, -, h⟩ := sharedRead_next h
  exact leaves_keeps (keeps_trans (keeps_deliverAll s) (registers _ _ h))

theorem keeps_finishA {i : BitVec 3} {x : AWord} {n : Nat} (h : finishA i x n s = .next t) : Keeps s t := by
  cases h
  exact keeps_registers rfl

theorem keeps_finishS {i : BitVec 3} {x : Word} {n : Nat} (h : finishS i x n s = .next t) : Keeps s t := by
  cases h
  exact keeps_registers rfl

theorem leaves_testAndSet {n : Fin 32} (h : testAndSet n s = .next t) : Leaves s t := by
  have holds : Keeps s { deliverAll s with ws := true, held := some n } :=
    { legal := fun g => { legal_congr (t := deliverAll s) g with waiting := rfl } }
  obtain ⟨c, -, ⟨-, rfl⟩ | ⟨-, taken⟩ | ⟨-, rfl⟩⟩ := testAndSet_next h
  · exact leaves_keeps holds
  · exact .raises causeDl _ (by simp) taken holds
  · exact leaves_keeps { legal := fun g => { legal_congr (t := deliverAll s) g with waiting := rfl } }

theorem leaves_finishFloat {error : Bool} {u : State} (kept : Keeps s u) (h : finishFloat error u = .next t) :
    Leaves s t := by
  rcases finishFloat_next h with ⟨-, rfl⟩ | ⟨-, -, taken⟩
  · exact leaves_keeps kept
  · exact .raises causeFpe u (by simp) taken kept

theorem leaves_floatS {i : BitVec 3} {x : Word} {error : Bool} (h : floatS i x error s = .next t) : Leaves s t :=
  leaves_finishFloat (keeps_registers rfl) h

theorem leaves_floatV {i : BitVec 3} {f : Nat → Word} {error : Nat → Bool} (h : floatV i f error s = .next t) :
    Leaves s t :=
  leaves_finishFloat (keeps_registers rfl) h

theorem leaves_finishV {i : BitVec 3} {f : Nat → Word} (h : finishV i f s = .next t) : Leaves s t :=
  leaves_registers h

theorem leaves_maskTest {j : BitVec 3} {test : Word → Bool} (h : maskTest j test s = .next t) : Leaves s t :=
  leaves_registers h

theorem leaves_maskTestIndexed {i j : BitVec 3} {test : Word → Bool} (h : maskTestIndexed i j test s = .next t) :
    Leaves s t := by
  obtain ⟨-, rfl⟩ := maskTestIndexed_next h
  exact leaves_keeps (keeps_registers rfl)

theorem leaves_scalarLoad {l : AWord} {write : Word → State → State} (registers : ∀ w u, Keeps u (write w u))
    (h : scalarLoad l write s = .next t) : Leaves s t := by
  rcases scalarLoad_next h with ⟨w, u, hu, rfl⟩ | taken
  · exact leaves_keeps (keeps_trans (keeps_trans (keeps_scalarRead hu) (registers w u)) (keeps_advance 3 _))
  · exact .raises causeOre _ (by simp) taken (keeps_advance 3 s)

theorem leaves_scalarStore {l : AWord} {v : Word} (h : scalarStore l v s = .next t) : Leaves s t := by
  rcases scalarStore_next h with ⟨u, hu, rfl⟩ | taken
  · exact leaves_keeps (keeps_trans (keeps_scalarWrite hu) (keeps_advance 3 u))
  · exact .raises causeOre _ (by simp) taken (keeps_advance 3 s)

theorem keeps_abandonedLoad {n : Nat} {at_ : Nat → AWord} {put : Nat → Word → State → State}
    (registers : ∀ e w u, Keeps u (put e w u)) : Keeps s (abandonedLoad n at_ put s) := by
  have read : Keeps s (readSome at_ (List.range n) s).2 :=
    readSome_keeps (fun _ _ _ _ hr h => keeps_trans h (keeps_uncachedRead hr))
      (fun u h => keeps_trans h (keeps_environment u)) _ (keeps_refl s)
  exact keeps_trans (putAll_keeps (fun e w u h => keeps_trans h (registers e w u)) _ read) (keeps_registers rfl)

theorem leaves_transferIn {n : Nat} {at_ : Nat → AWord} {put : Nat → Word → State → State}
    (registers : ∀ e w u, Keeps u (put e w u)) (h : transferIn n at_ put s = .next t) : Leaves s t := by
  rcases transferIn_next h with ⟨ws, u, hu, rfl⟩ | ⟨-, taken⟩
  · have read : Keeps s u :=
      readElements_keeps (fun _ _ _ _ hr h => keeps_trans h (keeps_uncachedRead hr))
        (fun u h => keeps_trans h (keeps_environment u)) _ hu (keeps_refl s)
    exact leaves_keeps
      (keeps_trans (putAll_keeps (fun e w u h => keeps_trans h (registers e w u)) _ read) (keeps_advance 1 _))
  · exact .raises causeOre _ (by simp) taken (keeps_trans (keeps_abandonedLoad registers) (keeps_advance 1 _))

theorem leaves_transferOut {n : Nat} {at_ : Nat → AWord} {value : Nat → Word}
    {write : AWord → Word → State → Access State} (kept : ∀ l v s u, write l v s = .done u → Keeps s u)
    (h : transferOut n at_ value write s = .next t) : Leaves s t := by
  have each (l : AWord) (v : Word) (x u : State) (hw : write l v x = .done u) (hx : Keeps s x) : Keeps s u :=
    keeps_trans hx (kept l v x u hw)
  rcases transferOut_next h with ⟨u, hu, rfl⟩ | ⟨-, taken⟩
  · exact leaves_keeps (keeps_trans (writeElements_keeps each _ hu (keeps_refl s)) (keeps_advance 1 u))
  · have left : Keeps s (abandonedStore n at_ value write s) :=
      keeps_trans (writeSome_keeps each _ (keeps_refl s)) (keeps_registers rfl)
    exact .raises causeOre _ (by simp) taken (keeps_trans left (keeps_advance 1 _))

theorem leaves_blockLoad {i : BitVec 3} {at_ : Nat → AWord} {put : Nat → Word → State → State}
    (registers : ∀ e w u, Keeps u (put e w u)) (h : (withCount i s fun n => transferIn n at_ put s) = .next t) :
    Leaves s t :=
  leaves_transferIn registers (withCount_next h).2

theorem leaves_blockStore {i : BitVec 3} {at_ : Nat → AWord} {value : Nat → Word}
    (h : (withCount i s fun n => transferOut n at_ value blockWrite s) = .next t) : Leaves s t :=
  leaves_transferOut (fun _ _ _ _ => keeps_blockWrite) (withCount_next h).2

theorem leaves_vectorLoad {i : BitVec 3} {at_ : Nat → AWord} (h : vectorLoad i at_ s = .next t) : Leaves s t :=
  leaves_transferIn (fun _ _ _ => keeps_registers rfl) h

theorem leaves_vectorStore {j : BitVec 3} {at_ : Nat → AWord} (h : vectorStore j at_ s = .next t) : Leaves s t :=
  leaves_transferOut (fun _ _ _ _ => keeps_vectorWrite) h

theorem vlOf_range (a : AWord) : 1 ≤ (vlOf a).toNat ∧ (vlOf a).toNat ≤ 64 := by
  have low := (a.extractLsb' 0 6).isLt
  unfold vlOf
  dsimp only
  split_ifs with zero
  · decide
  · have : (a.extractLsb' 0 6).toNat ≠ 0 := fun e => zero (BitVec.eq_of_toNat_eq e)
    rw [BitVec.toNat_setWidth]
    omega

theorem leaves_setVl {x : BitVec 7} (range : 1 ≤ x.toNat ∧ x.toNat ≤ 64)
    (h : Host.Outcome.next { advance 1 s with vl := x } = (.next t : Result)) : Leaves s t :=
  leaves_next (u := { advance 1 s with vl := x })
    { legal := fun g => { legal_congr (t := advance 1 s) g with length := range } } h

end

theorem keepsControl_of_next {s t u : State} (h : Host.Outcome.next u = (.next t : Result)) (kept : KeepsControl s u) :
    KeepsControl s t := by
  cases h
  exact kept

theorem primary_leaves {i : Instr} {s t : State} (spelled : i.isSpelling = false) (h : exec i s = .next t) :
    Leaves s t := by
  cases i with
  | err => exact .raises causeEex _ (by simp) h (keeps_advance 1 s)
  | ex => exact .raises causeNex _ (by simp) h (keeps_advance 1 s)
  | ca | cl | ci | mc => exact leaves_privileged h keepsControl_commandNamed
  | sip j =>
    refine leaves_privileged h fun h => ?_
    split at h
    · exact keepsControl_of_next h { legal := fun g => legal_congr g }
    · cases h
  | xa | rt | cipi | cln | pci | cci | eci | dci | selectPerf | readPerf | incPerfUpper | incPerfLower =>
    exact leaves_privileged h fun h => keepsControl_of_next h { legal := fun g => legal_congr g }
  | clearMaint =>
    exact leaves_privileged h fun h => keepsControl_of_next h
      { legal := fun g => { legal_congr (t := advance 1 s) g with noMaintenance := rfl } }
  | disablePortA | disablePortB | disablePortD | swapCheckBytes | replaceCheckBits =>
    exact leaves_privileged h fun h => nomatch h
  | ivc j =>
    change execIvc j s = .next t at h
    unfold execIvc at h
    split at h
    · exact leaves_next { legal := fun g => legal_congr g } h
    · cases h
  | setVl k => exact leaves_setVl (vlOf_range _) h
  | efi | dfi | eri | dri | dbm | ebm => exact leaves_modes h { legal := fun g => legal_congr g } {}
  | cmr => exact leaves_next (keeps_trans { legal := legal_performAll } (keeps_advance 1 _)) h
  | smTestSet => exact leaves_testAndSet h
  | smClear | smSet | smFromS | sbFromA | stFromS => exact leaves_sharedWrite h
  | aFromSb i j => exact leaves_sharedRead (use := fun c u => finishA i (reg c.sb j) 1 u) (fun _ _ => keeps_finishA) h
  | sFromSm i => exact leaves_sharedRead (use := fun c u => finishS i (smImage c.sm) 1 u) (fun _ _ => keeps_finishS) h
  | sFromSt i j => exact leaves_sharedRead (use := fun c u => finishS i (reg c.st j) 1 u) (fun _ _ => keeps_finishS) h
  | jaz | jan | jap | jam | jsz | jsn | jsp | jsm => exact leaves_branchIf h
  | aChanAddr i j =>
    change execAChanAddr i j s = .next t at h
    unfold execAChanAddr at h
    split at h
    · exact leaves_keeps (keeps_finishA h)
    · cases h
  | aChanErr i j =>
    change execAChanErr i j s = .next t at h
    unfold execAChanErr at h
    split at h
    · exact leaves_keeps (keeps_finishA h)
    · cases h
  | loadB | loadT => exact leaves_blockLoad (fun _ _ _ => keeps_registers rfl) h
  | storeB | storeT => exact leaves_blockStore h
  | sFadd | sFsub | sFmul | sFmulH | sFmulR | sRecipIter | sRecip => exact leaves_floatS h
  | loadA | loadS => exact leaves_scalarLoad (fun _ _ => keeps_registers rfl) h
  | storeA | storeS => exact leaves_scalarStore h
  | vsAnd | vvAnd | vsOr | vvOr | vsXor | vvXor | vsMerge | vvMerge | vShiftLeft | vShiftRight | vsAdd | vvAdd | vsSub
  | vvSub | vsImul32 | vPop | vParity => exact leaves_finishV h
  | vDoubleLeft => exact leaves_finishV (doubleLeftV_next h).2.2
  | vDoubleRight => exact leaves_finishV (doubleRightV_next h).2.2
  | vsFmul | vvFmul | vsFmulH | vvFmulH | vsFmulR | vvFmulR | vvRecipIter | vsFadd | vvFadd | vsFsub | vvFsub | vRecip =>
    exact leaves_floatV h
  | vmZero | vmNonzero | vmPlus | vmMinus => exact leaves_maskTest h
  | vmZeroIdx | vmNonzeroIdx | vmPlusIdx | vmMinusIdx => exact leaves_maskTestIndexed h
  | vLoad | vGather => exact leaves_vectorLoad h
  | vStore | vScatter => exact leaves_vectorStore h
  | pass | setVm | jumpB | jump | returnJump | aExp | aExpNot | aShort | aFromS | aFromVl | aFromB | bFromA | aPop
  | aParity | aLzc | aAdd | aSub | aMul | aChanInt | sExp | sExpNot | sMaskRight | sMaskLeft | sAnd | sAndNot | sXor
  | sXnor | sMerge | sOr | s0ShiftLeft | s0ShiftRight | sShiftLeft | sShiftRight | sDoubleLeft | sDoubleRight | sAdd
  | sSub | sFromA | sFromASigned | sFloatFromA | sThreeQuarters | sHalf | sOne | sTwo | sFour | sFromRt | sFromVm
  | sFromSr0 | sFromT | tFromS | sFromV | vFromS => exact leaves_registers h
  | _ => cases spelled

/-- All an instruction can do to the control state and the system's registers; a second spelling does what the
instruction it spells does. -/
theorem exec_leaves {i : Instr} {s t : State} (h : exec i s = .next t) : Leaves s t := by
  rw [exec_primary] at h
  exact primary_leaves (isSpelling_primary i) h

/-! ## The statements -/

/-- What an exchange neither loads nor changes, of the registers that are the system's (60 R504). -/
theorem exchange_keeps {f : Flags} {s t : State} (h : exchange f s = .next t) :
    t.pn = s.pn ∧ t.sys = s.sys ∧ t.ii = s.ii ∧ t.pciEnable = s.pciEnable ∧ t.perf = s.perf ∧ t.maint = s.maint ∧
      t.rtc = s.rtc ∧ t.chans = s.chans ∧ t.pciRequest = s.pciRequest ∧ t.ipiPending = s.ipiPending := by
  obtain ⟨new, -, -, rfl, -⟩ := swapPackage_next h
  exact ⟨rfl, rfl, rfl, rfl, rfl, rfl, rfl, rfl, rfl, rfl⟩

theorem leftByOwnExchange_of_raise {cause : Flags} {s t u : State}
    (own : cause ∈ [causeDl, causeFpe, causeOre, causeEex, causeNex]) (taken : raise cause u = .next t)
    (kept : Keeps s u) : leftByOwnExchange s t :=
  ⟨cause, u, own, taken, kept.xa, kept.modes, kept.flags, kept.iba, kept.ila, kept.dba, kept.dla, kept.cln, kept.ce,
    kept.pn⟩

/-- Settles O19: an instruction goes on with the control state, or raises a cause of its own. -/
theorem onlyExchangesChangeControl : Obligations.OnlyExchangesChangeControl := by
  intro i s t h
  cases exec_leaves h with
  | goesOn c => exact ⟨c.pn, c.sys, Or.inl ⟨c.mm, c.sei, c.rest, c.iba, c.ila, c.dba, c.dla, c.flags, c.ce⟩⟩
  | raises cause u own taken kept =>
    obtain ⟨pn, sys, -⟩ := exchange_keeps taken
    exact ⟨pn.trans kept.pn, sys.trans kept.sys, Or.inr (leftByOwnExchange_of_raise own taken kept)⟩

/-- Settles O20: outside monitor mode an instruction keeps the system's registers, and an exchange for a cause of its own
loads none of them but XA and CLN. -/
theorem userModeKeepsSystemState : Obligations.UserModeKeepsSystemState := by
  intro i s t user h
  cases exec_leaves h with
  | goesOn _ system =>
    have k := system user
    exact ⟨k.ii, k.pciEnable, k.perf, k.maint, fun quiet => (k.quiet quiet).2, Or.inl ⟨k.xa, k.cln⟩⟩
  | raises cause u own taken kept =>
    obtain ⟨-, -, ii, enable, perf, maint, rtc, chans, request, ipi⟩ := exchange_keeps taken
    refine ⟨ii.trans kept.ii, enable.trans kept.pciEnable, perf.trans kept.perf, maint.trans kept.maint, fun quiet => ?_,
      Or.inr (leftByOwnExchange_of_raise own taken kept)⟩
    obtain ⟨-, rtc', chans', request', ipi'⟩ := kept.quiet quiet
    exact ⟨rtc.trans rtc', chans.trans chans', request.trans request', ipi.trans ipi'⟩

theorem legal_of_leaves {s t : State} (h : Leaves s t) (legal : Legal s) : Legal t := by
  cases h with
  | goesOn control => exact control.legal legal
  | raises _ _ _ taken kept => exact legal_exchange (kept.legal legal) taken

theorem legal_issue {s t : State} (h : Legal s) (hx : issue s = .next t) : Legal t := by
  unfold issue at hx
  split at hx
  · exact legal_of_leaves (exec_leaves hx) h
  · exact legal_exchange h hx
  · cases hx
  · cases hx

theorem legal_resume {s t : State} (h : Legal s) (hx : resume s = .next t) : Legal t := by
  unfold resume at hx
  split at hx
  · exact legal_of_leaves (leaves_testAndSet hx) h
  · exact legal_issue h hx

/-- Settles O2: the other agents keep the invariant, and so does each of the three ways a step goes on from there. -/
theorem stepKeepsInvariant : Obligations.StepKeepsInvariant := by
  intro s t h hx
  have acted : Legal (environment s) := legal_environment h
  unfold step cycle at hx
  dsimp only at hx
  split at hx
  · exact legal_deadstart acted hx
  · split at hx
    · exact legal_exchange acted hx
    · exact legal_resume acted hx

/-- Settles O1: memory, cache and queues are empty at reset, and the registers hold the values of the log. -/
theorem resetMeetsInvariant : Obligations.ResetMeetsInvariant where
  memory := reset_memory_wf
  inMemory _ h := nomatch h
  length := by decide
  cacheSize := Nat.zero_le _
  cacheOrder := List.Pairwise.nil
  cacheOff _ := rfl
  queued _ h := nomatch h
  flagsClear _ := rfl
  noMaintenance := rfl
  waiting := rfl
  number := ncpu_pos _

/-- Settles O3: the fields of the reset state, and every channel idle. -/
theorem resetState : Obligations.ResetState := by
  refine ⟨rfl, rfl, rfl, rfl, rfl, rfl, rfl, rfl, rfl, rfl, fun n => ?_⟩
  have idle : State.reset.chans[n] = Channel.idle := Vector.getElem_replicate n.isLt
  rw [idle]
  exact ⟨rfl, rfl, rfl⟩

end Sys2Proof.Invariant

/-! PROOFS. The exchange sequence (spec/60_exceptions.md, section 1). -/

namespace Sys2Proof.Exchange

open Sys2Proof Sys2Proof.Machine Sys2Proof.Safety Sys2Proof.ControlMonitor

/-! ## Fields of joined bit vectors -/

theorem extract_low {m n : Nat} (x : BitVec m) (y : BitVec n) : (x ++ y).extractLsb' 0 n = y := by
  apply BitVec.eq_of_getLsbD_eq
  intro p hp
  simp [BitVec.getLsbD_append, hp]

theorem extract_high {m n : Nat} (x : BitVec m) (y : BitVec n) (low len : Nat) :
    (x ++ y).extractLsb' (n + low) len = x.extractLsb' low len := by
  apply BitVec.eq_of_getLsbD_eq
  intro p hp
  simp only [BitVec.getLsbD_extractLsb', BitVec.getLsbD_append]
  rw [if_neg (by omega)]
  congr 2
  omega

theorem bit_high {m n : Nat} (x : BitVec m) (y : BitVec n) (low : Nat) :
    (x ++ y).getLsbD (n + low) = x.getLsbD low := by
  rw [BitVec.getLsbD_append, if_neg (by omega)]
  congr 1
  omega

/-! ## The package saved (60 R504, 10 R60) -/

/-- Field by field, the words saved hold the registers. -/
theorem savedFrom_packPackage (s : State) (f : Flags) : savedFrom s (s.flags.union f) (packPackage s f) := by
  refine ⟨rfl, fun n => ?_, fun n => ?_, ?_, ?_, ?_, ?_, ?_, ?_, ?_, ?_, ?_, ?_, ?_, ?_, ?_⟩
  · fin_cases n <;> exact extract_low _ _
  · fin_cases n <;> rfl
  · exact (extract_high _ _ 24 5).trans ((extract_high _ _ 0 5).trans (extract_low _ _))
  · exact (extract_high _ _ 0 24).trans (extract_low _ _)
  · exact (extract_high _ _ 2 22).trans ((extract_high _ _ 0 22).trans (extract_low _ _))
  · exact (extract_high _ _ 2 22).trans ((extract_high _ _ 0 22).trans (extract_low _ _))
  · exact (extract_high _ _ 2 22).trans ((extract_high _ _ 0 22).trans (extract_low _ _))
  · exact (extract_high _ _ 2 22).trans ((extract_high _ _ 0 22).trans (extract_low _ _))
  · exact (extract_high _ _ 16 10).trans ((extract_high _ _ 10 10).trans ((extract_high _ _ 7 10).trans
      ((extract_high _ _ 0 10).trans (extract_low _ _))))
  · exact (extract_high _ _ 9 7).trans ((extract_high _ _ 3 7).trans ((extract_high _ _ 0 7).trans (extract_low _ _)))
  · exact (extract_high _ _ 0 6).trans (extract_low _ _)
  · refine (bit_high _ _ 30).trans ((bit_high _ _ 18).trans ((bit_high _ _ 7).trans ((bit_high _ _ 0).trans ?_)))
    rw [BitVec.getLsbD_append, if_pos (by decide)]
    exact BitVec.getLsbD_ofBool _ _
  · exact (extract_high _ _ 12 11).trans ((extract_high _ _ 0 11).trans (extract_low _ _))
  · exact (extract_high _ _ 0 12).trans (extract_low _ _)
  · refine (bit_high _ _ 0).trans ?_
    rw [BitVec.getLsbD_append, if_pos (by decide)]
    exact BitVec.getLsbD_ofBool _ _

/-- Eight registers are those read by their designators. -/
theorem ext_reg {α : Type} {r q : Vector α 8} (h : ∀ n : BitVec 3, reg r n = reg q n) : r = q :=
  Vector.ext fun n hn => by
    have := h (BitVec.ofNat 3 n)
    simpa [reg, Nat.mod_eq_of_lt hn] using this

/-- Settles O11: each field is read where it was saved, and FLAGS and MODES are packed and unpacked alike. -/
theorem packageRestores : Obligations.PackageRestores := by
  intro s u causes r
  obtain ⟨a, sr, p, iba, ila, dba, dla, xa, vl, cln, flags, modes, ce⟩ :=
    loadedFrom_unpackPackage (packPackage s causes) u
  obtain ⟨-, a', s', -, p', iba', ila', dba', dla', xa', vl', cln', -, flags', modes', ce'⟩ :=
    savedFrom_packPackage s causes
  refine ⟨ext_reg fun n => (a n).trans (a' n), ext_reg fun n => (sr n).trans (s' n), p', iba', ila', dba', dla', xa', vl',
    cln', ?_, ?_, ce'⟩
  · exact (congrArg unpackFlags flags').trans (unpackFlags_packFlags _)
  · exact (congrArg unpackModes modes').trans (unpackModes_packModes _)

/-! ## The sequence on a package that may run -/

theorem bit_ivc_own (m : BitVec 32) (n : BitVec 5) : (setCpuBit m n.toNat false).getLsbD n.toNat = false := by
  rw [getLsbD_setCpuBit _ _ _ _ n.isLt, if_pos rfl]

theorem bit_ivc_other (m : BitVec 32) (n : BitVec 5) {b : Nat} (h : b ≠ n.toNat) :
    (setCpuBit m n.toNat false).getLsbD b = m.getLsbD b := by
  by_cases hb : b < 32
  · rw [getLsbD_setCpuBit _ _ _ _ hb, if_neg h]
  · rw [BitVec.getLsbD_of_ge _ _ (by omega), BitVec.getLsbD_of_ge _ _ (by omega)]

/-- After an exchange memory holds every byte outside the package as it did before the words were saved. -/
theorem byteAt_loaded {u : State} {m : List Host.Cell} {a b : Nat} {saved : List Word} (ws : List Word)
    (done : u.pending = []) (written : u.mem = writeWords m a saved) (outside : b / 8 < a ∨ a + saved.length ≤ b / 8) :
    byteAt (afterExchange (unpackPackage ws u)) b = readByte m b := by
  have held : readByte u.mem b = byteAt (afterExchange (unpackPackage ws u)) b :=
    readByte_mem_of_pending_nil (s := afterExchange (unpackPackage ws u)) done b
  rw [← held, written, readByte_writeWords_out _ _ _ _ outside]

/-- The state with the saved words in memory and the draws they took counted. -/
def withSaved (m : List Host.Cell) (draws : Nat) (s : State) : State := { s with mem := m, seq := draws }

theorem withSaved_mem (m : List Host.Cell) (draws : Nat) (s : State) : (withSaved m draws s).mem = m := rfl

theorem exchange_eq_loaded {f : Flags} {s : State} {ws : List Word} (found : packageAt s ws) (runs : runnable ws) :
    exchange f s =
      .next (afterExchange (unpackPackage ws
        (withSaved (writeWords (performAll s).mem (s.xa.toNat * 16) (packPackage (drawReport (performAll s)) f))
          (s.seq + 9) (drawReport (performAll s))))) :=
  exchange_of_runnable found runs

/-- Whatever was saved, the exchange leaves and clears the same registers (60 R504, R505 step 6). -/
theorem leftByExchange_loaded (s : State) (ws : List Word) (m : List Host.Cell) (draws : Nat) :
    leftByExchange s (afterExchange (unpackPackage ws (withSaved m draws (drawReport (performAll s))))) :=
  ⟨rfl, rfl, rfl, rfl, rfl, rfl, rfl, rfl, rfl, rfl, rfl, rfl, rfl, rfl, rfl, rfl, rfl, rfl, rfl, rfl, rfl, rfl,
    bit_ivc_own _ _, fun _ h => bit_ivc_other _ _ h, rfl, rfl⟩

/-- The exchange sequence is complete on a package that may run (60 R503, R504, R505). -/
theorem exchanges_exchange {s : State} {ws : List Word} (f : Flags) (found : packageAt s ws) (runs : runnable ws) :
    exchanges (exchange f s) s (s.flags.union f) ws := by
  refine ⟨_, packPackage (drawReport (performAll s)) f, exchange_eq_loaded found runs, loadedFrom_unpackPackage _ _, ?_,
    savedFrom_packPackage (drawReport (performAll s)) f, leftByExchange_loaded _ _ _ _, fun b outside => ?_⟩
  · rw [afterExchange_mem, unpackPackage_mem, withSaved_mem]
    exact readWords_packPackage _ _ _ _
  · exact byteAt_loaded ws rfl (withSaved_mem _ _ _) outside

/-- Settles O12. -/
theorem exchangeSwaps : Obligations.ExchangeSwaps := fun _ _ f found runs => exchanges_exchange f found runs

/-- A cause of the running instruction's own is taken with the requests pending (60 R512). -/
theorem exchanges_raise {s : State} {ws : List Word} (cause : Flags) (found : packageAt s ws) (runs : runnable ws) :
    exchanges (raise cause s) s (s.flags.union (cause.union (pendingCauses s))) ws :=
  exchanges_exchange _ found runs

/-! ## A package that may not run -/

/-- What the words decide about the state they are loaded into. -/
theorem swapPackage_of_found {xa : BitVec 10} {saved new : List Word} {s : State}
    (hn : readWords s.mem (xa.toNat * 16) 16 = some new) :
    let t := unpackPackage new { s with mem := writeWords s.mem (xa.toNat * 16) saved }
    swapPackage xa saved s =
      if t.vl.toNat = 0 ∨ 64 < t.vl.toNat then .refused .vlOutOfRange
      else if t.modes.mm = false ∧ t.flags ≠ Flags.none then .refused .flagsPending
      else .next (afterExchange t) := by
  have inside := package_inMemory xa s.sys
  unfold swapPackage
  dsimp only
  rw [if_neg (by omega), hn]

/-- Settles O13: VL is looked at before MM and FLAGS. -/
theorem exchangeRefusesBadPackage : Obligations.ExchangeRefusesBadPackage := by
  intro s ws f found vl
  have swapped := swapPackage_of_found (saved := packPackage (drawReport (performAll s)) f)
    (s := { drawReport (performAll s) with seq := (drawReport (performAll s)).seq + 8 }) found
  constructor
  · intro bad
    exact swapped.trans (if_pos bad)
  · intro good stays
    refine (swapped.trans (if_neg ?_)).trans (if_pos ?_)
    · change ¬(vl = 0 ∨ 64 < vl)
      omega
    · have neither : ¬(modeAt ((ws.getD 6 0).extractLsb' 32 12) 0 = true ∨ (ws.getD 6 0).extractLsb' 44 11 = 0) :=
        fun h => stays ⟨good, h⟩
      rw [not_or, Bool.not_eq_true] at neither
      exact ⟨neither.1, fun h => neither.2 ((unpackFlags_eq_none _).1 h)⟩

/-! ## Exits, deadstart and requests -/

/-- Settles O14: both exits raise their cause from the state with P after the instruction. -/
theorem exitsExchange : Obligations.ExitsExchange := by
  refine ⟨listed_of_parcelCount_one rfl fun _ _ => rfl, listed_of_parcelCount_one rfl fun _ _ => rfl, ?_⟩
  intro s ws found runs u
  exact ⟨exchanges_raise (s := u) causeEex found runs, exchanges_raise (s := u) causeNex found runs⟩

theorem deadstart_eq_loaded {s : State} {ws : List Word} (found : readWords (performAll s).mem 0 16 = some ws)
    (runs : runnable ws) :
    deadstart s =
      .next (afterExchange (unpackPackage ws
        (withSaved (writeWords (performAll s).mem 0 ((List.range 16).map fun w => Config.draw (s.seq + w)))
          (s.seq + 16) { performAll s with running := true }))) :=
  swapPackage_of_runnable (xa := bootXa) (s := { performAll s with seq := s.seq + 16, running := true })
    (package_inMemory bootXa s.sys) found runs

/-- Settles O4: the words saved are draws, and the package at 0 is loaded as an exchange loads one. -/
theorem deadstartLoadsPackage : Obligations.DeadstartLoadsPackage := by
  intro s0 ws stopped found runs
  refine ⟨_, (step_deadstart stopped).trans (deadstart_eq_loaded found runs), loadedFrom_unpackPackage _ _, rfl, rfl, rfl,
    rfl, rfl, rfl, environment_b s0, environment_t s0, environment_v s0, environment_vm s0, fun b outside => ?_⟩
  exact byteAt_loaded ws rfl (withSaved_mem _ _ _) (Or.inr (by simpa using outside))

/-- Outside monitor mode the requests pending are those of the three registers (60 R509, R510). -/
theorem pendingCauses_user {s : State} (user : s.modes.mm = false) :
    pendingCauses s =
      { Flags.none with
        icp := s.ipiPending.getLsbD s.pn.toNat
        ioi := channelRequests s && ioTarget s
        pci := s.pciEnable && s.pciRequest } := by
  simp [pendingCauses, user]

theorem pendingCauses_monitor {s : State} (monitor : s.modes.mm = true) : pendingCauses s = Flags.none := by
  simp [pendingCauses, monitor, takenInMonitor]

/-- A request pending is taken by the exchange, with every request pending at the same time (60 R512). -/
theorem exchanges_step {s0 : State} {ws : List Word} (running : (environment s0).running = true)
    (pending : pendingCauses (environment s0) ≠ Flags.none) (free : stuck (environment s0) = false)
    (found : packageAt (environment s0) ws) (runs : runnable ws) :
    exchanges (step s0) (environment s0) ((environment s0).flags.union (pendingCauses (environment s0))) ws := by
  rw [step_exchange running pending free]
  exact exchanges_exchange _ found runs

/-- Settles O15: the flags saved are those of the registers and of the requests. -/
theorem interruptsAreTaken : Obligations.InterruptsAreTaken := by
  intro s0 ws s icp pci running user free found runs some_
  have causes := pendingCauses_user user
  have pending : pendingCauses s ≠ Flags.none := by
    intro none_
    rw [causes] at none_
    have noIcp : icp = false := congrArg Flags.icp none_
    have noPci : pci = false := congrArg Flags.pci none_
    simp [noIcp, noPci] at some_
  refine ⟨_, exchanges_step running pending free found runs, ?_⟩
  change ((s.flags.union (pendingCauses s)).icp = _) ∧ _
  rw [causes]
  simp [Flags.union, Flags.none, s, icp, pci]

/-! ## The target of I/O interrupts (60 R521, log 28) -/

theorem channelRequests_of_configured {s : State} {n : Fin 64} (h : configured s n) (int : s.chans[n].int = true) :
    channelRequests s = true := by
  refine List.any_eq_true.2 ⟨n, List.mem_finRange n, ?_⟩
  rw [int, Bool.and_true, channelExists, decide_eq_true h.1, h.2]
  rfl

theorem someSei_of_other {s : State} {n : Fin 32} (other : n.val ≠ s.pn.toNat) (present : n.val < ncpu s.sys)
    (sei : s.peers[n].sei = true) : someSei s = true := by
  refine List.any_eq_true.2 ⟨n, List.mem_finRange n, ?_⟩
  simp only [isCpu, present, statusSei, other, if_false, decide_true, Bool.or_true, Bool.true_and]
  exact sei

theorem someSei_of_self {s : State} (sei : s.modes.sei = true) : someSei s = true := by
  refine List.any_eq_true.2 ⟨⟨s.pn.toNat, s.pn.isLt⟩, List.mem_finRange _, ?_⟩
  simp [isCpu, statusSei, sei]

/-- The only CPU with SEI is the target. -/
theorem ioTarget_of_onlySei {s : State} (sei : s.modes.sei = true)
    (others : ∀ n : Fin 32, n.val ≠ s.pn.toNat ∧ n.val < ncpu s.sys → s.peers[n].sei = false) : ioTarget s = true := by
  have none_ : ((List.finRange 32).any fun n =>
      n.val != s.pn.toNat && (isCpu s n && (statusSei s n || !someSei s))) = false := by
    rw [List.any_eq_false]
    intro n _
    by_cases self : n.val = s.pn.toNat
    · simp [self]
    · by_cases present : n.val < ncpu s.sys
      · have := others n ⟨self, present⟩
        rw [statusSei, if_neg self, someSei_of_self sei, this]
        simp
      · simp [isCpu, self, present]
  simp only [ioTarget, none_, sei]
  rfl

/-- A CPU without SEI is no target while another has it. -/
theorem ioTarget_of_otherSei {s : State} (sei : s.modes.sei = false) (some_ : someSei s = true) :
    ioTarget s = false := by
  simp [ioTarget, sei, some_]

/-- Settles O16: no request is pending in monitor mode, and outside it the target decides whether IOI is. -/
theorem requestChoices : Obligations.RequestChoices := by
  intro s0 s other running
  refine ⟨fun monitor => ?_, fun ⟨n, conf, int⟩ user => ⟨fun ws free found runs sei others => ?_, fun sei ⟨m, hm, set⟩ => ?_⟩⟩
  · exact ⟨pendingCauses_monitor monitor, step_resume running (Or.inl (pendingCauses_monitor monitor))⟩
  · have ioi : (pendingCauses s).ioi = true := by
      rw [pendingCauses_user user]
      simp [channelRequests_of_configured conf int, ioTarget_of_onlySei sei others]
    have pending : pendingCauses s ≠ Flags.none := fun h => by
      rw [h] at ioi
      cases ioi
    refine ⟨_, exchanges_step running pending free found runs, ?_⟩
    change (s.flags.ioi || (pendingCauses s).ioi) = true
    rw [ioi, Bool.or_true]
  · rw [pendingCauses_user user]
    simp [ioTarget_of_otherSei sei (someSei_of_other hm.1 hm.2 set)]

end Sys2Proof.Exchange

/-! PROOFS. What a step fetches and issues (30 R136, 20 R88, 40 R199, 60 R516). -/

namespace Sys2Proof.Fetching

open Sys2Proof Sys2Proof.Machine Sys2Proof.Safety Sys2Proof.Exchange

/-! ## Parcels that stand at P -/

section
variable {s : State} {ps : List Parcel}

theorem fetchParcel_of_parcelsAt (there : parcelsAt s ps) (n : Nat) (h : n < ps.length) :
    fetchParcel s (s.p + BitVec.ofNat 24 n) = .done ps[n] := by
  obtain ⟨limit, exists_, clean, w, read, same⟩ := there n h
  rw [← same]
  exact fetchParcel_done limit exists_ clean read

theorem fetchParcel_first {p : Parcel} (there : parcelsAt s (p :: ps)) : fetchParcel s s.p = .done p := by
  have first := fetchParcel_of_parcelsAt there 0 (Nat.succ_pos _)
  rwa [BitVec.add_zero] at first

/-- The address of a parcel after the first. -/
theorem address_succ (q : BitVec 24) (n : Nat) : q + BitVec.ofNat 24 (n + 1) = q + 1 + BitVec.ofNat 24 n := by
  rw [BitVec.ofNat_add, BitVec.add_comm (BitVec.ofNat 24 n), BitVec.add_assoc]
  rfl

theorem fetchParcels_done (ps : List Parcel) : ∀ q : BitVec 24,
    (∀ n (h : n < ps.length), fetchParcel s (q + BitVec.ofNat 24 n) = .done ps[n]) →
      fetchParcels s q ps.length = .done ps := by
  induction ps with
  | nil => exact fun _ _ => rfl
  | cons p ps ih =>
    intro q there
    have first := there 0 (Nat.succ_pos _)
    rw [BitVec.add_zero] at first
    have others := ih (q + 1) fun n h => by
      rw [← address_succ]
      exact there (n + 1) (Nat.succ_lt_succ h)
    simp only [List.length_cons, fetchParcels, first, others, Access.andThen, List.getElem_cons_zero]

/-- The first parcel beyond the limit ends the fetch (20 R88). -/
theorem fetchParcels_rangeError (ps : List Parcel) : ∀ (q : BitVec 24) (count : Nat),
    (∀ n (h : n < ps.length), fetchParcel s (q + BitVec.ofNat 24 n) = .done ps[n]) →
      fetchParcel s (q + BitVec.ofNat 24 ps.length) = .rangeError → ps.length < count →
        fetchParcels s q count = .rangeError := by
  induction ps with
  | nil =>
    intro q count _ beyond more
    obtain ⟨m, rfl⟩ := Nat.exists_eq_succ_of_ne_zero (Nat.ne_of_gt more)
    rw [List.length_nil, BitVec.add_zero] at beyond
    simp only [fetchParcels, beyond, Access.andThen]
  | cons p ps ih =>
    intro q count there beyond more
    obtain ⟨m, rfl⟩ := Nat.exists_eq_succ_of_ne_zero (Nat.ne_of_gt (Nat.zero_lt_of_lt more))
    have first := there 0 (Nat.succ_pos _)
    rw [BitVec.add_zero] at first
    have others := ih (q + 1) m
      (fun n h => by
        rw [← address_succ]
        exact there (n + 1) (Nat.succ_lt_succ h))
      (by rw [← address_succ]; exact beyond) (Nat.lt_of_succ_lt_succ more)
    simp only [fetchParcels, first, others, Access.andThen]

/-- The parcels after the first, one parcel on. -/
theorem fetchParcel_later {p : Parcel} (there : parcelsAt s (p :: ps)) (n : Nat) (h : n < ps.length) :
    fetchParcel s (s.p + 1 + BitVec.ofNat 24 n) = .done ps[n] := by
  rw [← address_succ]
  exact fetchParcel_of_parcelsAt there (n + 1) (Nat.succ_lt_succ h)

/-! ## The instruction at P -/

theorem fetchInstr_of_decode {p : Parcel} {i : Instr} (whole : ps.length + 1 = parcelCount p)
    (there : parcelsAt s (p :: ps)) (hd : decode (p :: ps) = .ok i) : fetchInstr s = .done i := by
  have count : parcelCount p - 1 = ps.length := by omega
  simp only [fetchInstr, fetchParcel_first there, unlistedFirst_of_decode hd, count,
    fetchParcels_done ps _ (fetchParcel_later there), hd, Access.andThen]

theorem fetchInstr_of_later {p : Parcel} (there : parcelsAt s (p :: ps)) (listed : unlistedFirst p = none)
    (beyond : fetchParcels s (s.p + 1) (parcelCount p - 1) = .rangeError) : fetchInstr s = .rangeError := by
  simp only [fetchInstr, fetchParcel_first there, listed, beyond, Access.andThen]

theorem issue_of_decode {p : Parcel} {i : Instr} (whole : ps.length + 1 = parcelCount p)
    (there : parcelsAt s (p :: ps)) (hd : decode (p :: ps) = .ok i) : issue s = exec i s := by
  rw [issue, fetchInstr_of_decode whole there hd]

theorem issue_of_unlisted {p : Parcel} {why : Reject} (there : parcelsAt s [p]) (unlisted : unlistedFirst p = some why) :
    issue s = .refused (.unlisted why) := by
  have fetched : fetchInstr s = .refused (.unlisted why) := by
    simp only [fetchInstr, fetchParcel_first there, Access.andThen, unlisted]
  rw [issue, fetched]

theorem issue_of_rangeError (beyond : fetchInstr s = .rangeError) : issue s = raise causePre s := by
  rw [issue, beyond]

end

/-- The number of a semaphore, as 034 names it. -/
theorem semaphoreOf_ofNat (n : Fin 32) : semaphoreOf (BitVec.ofNat 6 n.val) = n := by
  apply Fin.ext
  have := n.isLt
  simp only [semaphoreOf, BitVec.toNat_ofNat]
  omega

/-! ## The statements -/

/-- Settles O8: the fetch answers the parcels at P, and a hold its own test and set. -/
theorem stepRunsDecoded : Obligations.StepRunsDecoded := by
  intro s0 s running
  refine ⟨fun free quiet => ⟨fun p ps i whole there hd => ?_, fun p why there unlisted => ⟨?_, ?_⟩⟩, fun n held goes => ?_⟩
  · rw [step_issue running free quiet]
    exact issue_of_decode whole there hd
  · exact decode_of_unlistedFirst unlisted
  · rw [step_issue running free quiet]
    exact issue_of_unlisted there unlisted
  · rw [step_resume running goes, resume_hold held]
    change _ = testAndSet (semaphoreOf (BitVec.ofNat 6 n.val)) s
    rw [semaphoreOf_ofNat]

/-- Settles O17: the fetch stops at the parcel beyond the limit, and the exchange is made with P where it was. -/
theorem programRangeExchanges : Obligations.ProgramRangeExchanges := by
  intro s0 ws s beyond running free quiet found runs
  have exchanged (out : fetchInstr s = .rangeError) : exchanges (step s0) s (s.flags.union causePre) ws := by
    have taken := exchanges_raise causePre found runs
    rw [quiet] at taken
    rw [step_issue running free quiet, issue_of_rangeError out]
    exact taken
  refine ⟨fun first => exchanged ?_, fun p ps listed there short later => exchanged ?_⟩
  · simp only [fetchInstr, fetchParcel_rangeError first, Access.andThen]
  · have last := fetchParcel_rangeError (s := s) later
    rw [address_succ] at last
    exact fetchInstr_of_later there listed (fetchParcels_rangeError ps _ _ (fetchParcel_later there) last (by omega))

end Sys2Proof.Fetching

/-! PROOFS. The monitor's instructions: channels, requests, clocks, the performance monitor, VL and VM
(spec/40_control_monitor.md). -/

namespace Sys2Proof.Monitor

open Sys2Proof Sys2Proof.Machine Sys2Proof.Safety Sys2Proof.ControlMonitor

/-! ## Privilege -/

/-- Settles O18: every privileged instruction is `privileged` of its effect. -/
theorem privilegedInUserModeIsNop : Obligations.PrivilegedInUserModeIsNop := by
  intro i s privileged_ user
  have nop (effect : Result) : goesOn (privileged s effect) s 1 := goesOn_of_eq_advance (privileged_user effect user)
  cases i with
  | ca | cl | ci | mc | xa | rt | sip | sipi | cipi | cln | pci | cci | eci | dci | selectPerf | disablePortA
  | disablePortB | disablePortD | swapCheckBytes | replaceCheckBits | readPerf | incPerfUpper | clearMaint
  | incPerfLower => exact nop _
  | _ => cases privileged_

section
variable (i j k : BitVec 3) {s : State} (monitor : s.modes.mm = true)
include monitor

/-! ## Meanings in monitor mode -/

theorem exec_ca : exec (.ca j k) s = commandNamed (readAj s j) (.setCurrent (readAk s k)) s :=
  privileged_monitor _ monitor

theorem exec_cl : exec (.cl j k) s = commandNamed (readAj s j) (.setLimit (readAk s k)) s :=
  privileged_monitor _ monitor

theorem exec_ci : exec (.ci j) s = commandNamed (readAj s j) .clear s := privileged_monitor _ monitor

theorem exec_mc : exec (.mc j) s = commandNamed (readAj s j) .masterClear s := privileged_monitor _ monitor

theorem exec_xa : exec (.xa j) s = .next (advance 1 { s with xa := xaOf (readAj s j) }) := privileged_monitor _ monitor

theorem exec_rt : exec (.rt j) s = .next (advance 1 { s with rtc := readSj s j }) := privileged_monitor _ monitor

theorem exec_sip :
    exec (.sip j) s =
      if (readAj s j).toNat < ncpu s.sys then
        .next { advance 1 s with ipiPending := setCpuBit s.ipiPending (readAj s j).toNat true }
      else .refused .noSuchCpu :=
  privileged_monitor _ monitor

theorem exec_sipi : exec .sipi s = .next { advance 1 s with ipiPending := setCpuBit s.ipiPending 0 true } :=
  privileged_monitor _ monitor

theorem exec_cipi :
    exec .cipi s = .next { advance 1 s with ipiPending := setCpuBit s.ipiPending s.pn.toNat false } :=
  privileged_monitor _ monitor

theorem exec_cln : exec (.cln j) s = .next (advance 1 { s with cln := (readAj s j).extractLsb' 0 6 }) :=
  privileged_monitor _ monitor

theorem exec_pci : exec (.pci j) s = .next (advance 1 { s with ii := readSj s j }) := privileged_monitor _ monitor

theorem exec_cci : exec .cci s = .next (advance 1 { s with pciRequest := false }) := privileged_monitor _ monitor

theorem exec_eci : exec .eci s = .next (advance 1 { s with pciEnable := true }) := privileged_monitor _ monitor

theorem exec_dci : exec .dci s = .next (advance 1 { s with pciEnable := false }) := privileged_monitor _ monitor

theorem exec_selectPerf :
    exec (.selectPerf j) s = .next { advance 1 s with perf := Config.perfStep (.select j) s.perf } :=
  privileged_monitor _ monitor

theorem exec_incPerfUpper :
    exec (.incPerfUpper i) s = .next { advance 1 s with perf := Config.perfStep .upper s.perf } :=
  privileged_monitor _ monitor

theorem exec_incPerfLower :
    exec (.incPerfLower i) s = .next { advance 1 s with perf := Config.perfStep .lower s.perf } :=
  privileged_monitor _ monitor

theorem exec_readPerf :
    exec (.readPerf i) s = .next { advance 1 s with
      s := setReg s.s i (Config.draw s.seq), perf := Config.perfStep .read s.perf, seq := s.seq + 1 } :=
  privileged_monitor _ monitor

theorem exec_clearMaint : exec (.clearMaint i) s = .next (advance 1 { s with maint := Maintenance.off }) :=
  privileged_monitor _ monitor

end

theorem exec_ivc (j : BitVec 3) (s : State) :
    exec (.ivc j) s =
      if (readAj s j).toNat < ncpu s.sys then
        .next { advance 1 s with ivcPending := setCpuBit s.ivcPending (readAj s j).toNat true }
      else .refused .noSuchCpu := rfl

/-! ## Channels -/

theorem configured_iff (s : State) (n : Fin 64) : configured s n ↔ channelExists s.sys n = true := by
  rw [channelExists, Bool.and_eq_true, decide_eq_true_eq]
  rfl

theorem channelOf_configured {s : State} {n : Fin 64} {number : AWord} (conf : configured s n)
    (names : number.toNat = n.val + 0o20) : channelOf s.sys number = some n :=
  channelOf_some.2 ⟨names, (configured_iff s n).1 conf⟩

theorem channelOf_unconfigured {s : State} {number : AWord}
    (none_ : ∀ n : Fin 64, configured s n → number.toNat ≠ n.val + 0o20) : channelOf s.sys number = none :=
  channelOf_none.2 fun n names => by
    rw [← Bool.not_eq_true, ← configured_iff]
    exact fun conf => none_ n conf names

/-- A command writes the channel named and no other. -/
theorem writesChannel_commandNamed {s : State} {n : Fin 64} {number : AWord} {c : ChannelCommand} {ch : Channel}
    (named : channelOf s.sys number = some n) (gives : commandChannel n c s.chans[n] = ch) :
    writesChannel (commandNamed number c s) s n ch := by
  unfold commandNamed
  rw [named]
  refine ⟨_, rfl, ?_, fun m hm => ?_, pAfter_advance _ _ _ rfl, rfl⟩
  · exact (Vector.getElem_set_self n.isLt).trans gives
  · exact Vector.getElem_set_ne n.isLt m.isLt fun e => hm (Fin.ext e.symm)

theorem commandNamed_refused {s : State} {number : AWord} (c : ChannelCommand) (named : channelOf s.sys number = none) :
    commandNamed number c s = .refused .noSuchChannel := by
  unfold commandNamed
  rw [named]

theorem isInput_even {n : Fin 64} (h : n.val % 2 = 0) : isInput n = true := by simp [isInput, h]

theorem isInput_odd {n : Fin 64} (h : n.val % 2 = 1) : isInput n = false := by simp [isInput, h]

/-- Settles O21: the number decides the channel, and each command is its function of that channel. -/
theorem channelCommands : Obligations.ChannelCommands := by
  intro j k s monitor
  rw [exec_ca j k monitor, exec_cl j k monitor, exec_ci j monitor, exec_mc j monitor]
  refine ⟨fun n conf names => ?_, fun none_ => ?_⟩
  · have named := channelOf_configured conf names
    refine ⟨writesChannel_commandNamed named rfl, writesChannel_commandNamed named rfl,
      ⟨s.chans[n].masterClear && isInput n, fun odd => ?_, fun even => ?_, writesChannel_commandNamed named rfl⟩,
      ⟨s.chans[n].masterClear || !isInput n, s.chans[n].readyHeld && !isInput n, fun odd => ?_, fun even => ?_,
        writesChannel_commandNamed named rfl⟩⟩
    · simp [isInput_odd odd]
    · simp [isInput_even even]
    · simp [isInput_odd odd]
    · simp [isInput_even even]
  · have named := channelOf_unconfigured none_
    exact ⟨commandNamed_refused _ named, commandNamed_refused _ named, commandNamed_refused _ named,
      commandNamed_refused _ named⟩

/-! ## Transfers and the clock -/

/-- Bits 13:4 of a number. -/
theorem xaOf_eq (a : AWord) : xaOf a = BitVec.ofNat 10 (a.toNat / 16) := by
  apply BitVec.eq_of_toNat_eq
  rw [xaOf, BitVec.extractLsb'_toNat, Nat.shiftRight_eq_div_pow, BitVec.toNat_ofNat]

/-- The low six bits of a number. -/
theorem low_six (a : AWord) : a.extractLsb' 0 6 = BitVec.ofNat 6 a.toNat := by
  apply BitVec.eq_of_toNat_eq
  rw [BitVec.extractLsb'_toNat, Nat.shiftRight_zero, BitVec.toNat_ofNat]

/-- Settles O22. -/
theorem monitorTransfers : Obligations.MonitorTransfers := by
  intro j s monitor
  rw [← xaOf_eq, ← low_six]
  exact ⟨goesOn_of_eq_advance (exec_xa j monitor), goesOn_of_eq_advance (exec_rt j monitor),
    goesOn_of_eq_advance (exec_cln j monitor), goesOn_of_eq_advance (exec_pci j monitor),
    goesOn_of_eq_advance (exec_cci monitor), goesOn_of_eq_advance (exec_eci monitor),
    goesOn_of_eq_advance (exec_dci monitor)⟩

/-! ## Requests between CPUs -/

/-- The outcome sets or clears bit m of the interprocessor requests, P goes on, and nothing else has changed. -/
theorem sets_ipiPending {out : Result} {s : State} {m : Nat} {v : Bool}
    (ends : out = .next { advance 1 s with ipiPending := setCpuBit s.ipiPending m v }) :
    ∃ t, out = .next t ∧ pAfter s t 1 ∧ t = { s with ipiPending := t.ipiPending, p := t.p } ∧
      ∀ b < 32, t.ipiPending.getLsbD b = if b = m then v else s.ipiPending.getLsbD b :=
  ⟨_, ends, pAfter_advance _ _ _ rfl, rfl, fun b hb => getLsbD_setCpuBit _ _ _ b hb⟩

/-- Settles O23: a number below NCPU names the bit that changes. -/
theorem requestsBetweenCpus : Obligations.RequestsBetweenCpus := by
  intro j s n ipi
  refine ⟨fun monitor => ⟨fun cpu => ?_, fun none_ => ?_, ?_, ?_⟩, fun cpu => ?_, fun none_ => ?_⟩
  · exact sets_ipiPending ((exec_sip j monitor).trans (if_pos cpu))
  · exact (exec_sip j monitor).trans (if_neg (Nat.not_lt.2 none_))
  · exact sets_ipiPending (exec_sipi monitor)
  · exact sets_ipiPending (exec_cipi monitor)
  · refine ⟨_, (exec_ivc j s).trans (if_pos cpu), pAfter_advance _ _ _ rfl, rfl, fun b hb => ?_⟩
    refine (getLsbD_setCpuBit _ _ _ b hb).trans ?_
    by_cases same : b = n
    · simp [same, n]
    · rw [if_neg same, decide_eq_false same, Bool.false_or]
  · exact (exec_ivc j s).trans (if_neg (Nat.not_lt.2 none_))

/-! ## The performance monitor and the maintenance modes -/

theorem moves_perf {out : Result} {s : State} {x : Nat} (ends : out = .next { advance 1 s with perf := x }) :
    ∃ t, out = .next t ∧ pAfter s t 1 ∧ t = { s with perf := t.perf, p := t.p } :=
  ⟨_, ends, pAfter_advance _ _ _ rfl, rfl⟩

/-- Settles O24. -/
theorem performanceMonitor : Obligations.PerformanceMonitor := by
  intro i j s monitor moves
  refine ⟨moves_perf (exec_selectPerf j monitor), moves_perf (exec_incPerfUpper i monitor),
    moves_perf (exec_incPerfLower i monitor), ⟨_, exec_readPerf i monitor, pAfter_advance _ _ _ rfl,
      fun r hr => reg_setReg_ne _ _ hr, rfl⟩, fun off => goesOn_of_eq_advance ?_⟩
  rw [exec_clearMaint i monitor, ← off]

/-- Settles O25: the effect of each of the five in monitor mode is the refusal. -/
theorem maintenanceModesStop : Obligations.MaintenanceModesStop := fun _ monitor =>
  ⟨privileged_monitor _ monitor, privileged_monitor _ monitor, privileged_monitor _ monitor,
    privileged_monitor _ monitor, privileged_monitor _ monitor⟩

/-! ## VL and VM -/

theorem toNat_vlOf (a : AWord) : (vlOf a).toNat = if a.toNat % 64 = 0 then 64 else a.toNat % 64 := by
  have low : (a.extractLsb' 0 6).toNat = a.toNat % 64 := by
    rw [BitVec.extractLsb'_toNat, Nat.shiftRight_zero]
  have zero : a.extractLsb' 0 6 = 0 ↔ a.toNat % 64 = 0 := by
    rw [← low, ← BitVec.toNat_inj, BitVec.ofNat_eq_ofNat, BitVec.toNat_ofNat, Nat.zero_mod]
  simp only [vlOf, zero]
  split_ifs
  · rfl
  · rw [BitVec.toNat_setWidth, low]
    omega

theorem writesVm_of_eq {out : Result} {s : State} {w : Word} (ends : out = .next { advance 1 s with vm := w }) :
    writesVm out s (· = w) :=
  ⟨_, ends, rfl, pAfter_advance _ _ _ rfl, rfl⟩

/-- Settles O27. -/
theorem vectorLengthAndMask : Obligations.VectorLengthAndMask := fun _ k s =>
  ⟨⟨_, rfl, pAfter_advance _ _ _ rfl, rfl, toNat_vlOf (readAk s k)⟩, goesOn_of_eq_advance rfl, writesVm_of_eq rfl,
    writesVm_of_eq rfl⟩

end Sys2Proof.Monitor

/-! PROOFS. The shared registers and the semaphores (20 R106, 40 R199 to R201, 60 R517). -/

namespace Sys2Proof.Shared

open Sys2Proof Sys2Proof.Machine Sys2Proof.Safety Sys2Proof.ScalarRegister Sys2Proof.Exchange

/-! ## Semaphores as bits -/

theorem getLsbD_smUnimage (w : Word) {m : Nat} (h : m < 32) : (smUnimage w).getLsbD m = w.getLsbD (63 - m) := by
  rw [smUnimage, getLsbD_bitsOf, decide_eq_true h, Bool.true_and, smImageBit]

theorem getLsbD_smImage (sm : BitVec 32) {p : Nat} (h : p < 64) :
    (smImage sm).getLsbD p = (decide (32 ≤ p) && sm.getLsbD (63 - p)) := by
  rw [smImage, getLsbD_bitsOf, decide_eq_true h, Bool.true_and, smImageBit]
  by_cases high : 32 ≤ p
  · rw [if_pos (by omega), decide_eq_true high, Bool.true_and]
  · rw [if_neg (by omega), decide_eq_false high, Bool.false_and]

theorem semaphoreOf_eq {jk : BitVec 6} {n : Fin 32} (h : jk.toNat = n.val) : semaphoreOf jk = n := by
  apply Fin.ext
  have := n.isLt
  simp only [semaphoreOf]
  omega

/-! ## Writes -/

/-- A write that is a function of the one cluster it goes to joins the queue, and its delivery is that function. -/
theorem queuesWrite_sharedWrite {s : State} {c : Fin Config.maxClusters} {write : Fin Config.maxClusters → SharedWrite}
    {q : Cluster → Cluster → Prop} (f : Cluster → Cluster) (selected : clusterOf s = some c)
    (effect : ∀ cs : Vector Cluster Config.maxClusters, applyShared cs (write c) = cs.set c.val (f cs[c]) c.isLt)
    (changes : ∀ x, q x (f x)) : queuesWrite (sharedWrite s write) s c q := by
  unfold sharedWrite
  rw [selected]
  have delivered : (deliverAll { advance 1 s with sharedQueue := s.sharedQueue ++ [write c] }).clusters =
      (deliverAll s).clusters.set c.val (f (deliverAll s).clusters[c]) c.isLt := by
    rw [← effect]
    simp only [deliverAll, List.foldl_append, List.foldl_cons, List.foldl_nil, advance_clusters]
  refine ⟨_, write c, rfl, rfl, ?_, fun d hd => ?_, pAfter_advance _ _ _ rfl, rfl⟩
  · rw [delivered]
    have same : ((deliverAll s).clusters.set c.val (f (deliverAll s).clusters[c]) c.isLt)[c] =
        f (deliverAll s).clusters[c] := Vector.getElem_set_self c.isLt
    rw [same]
    exact changes _
  · rw [delivered]
    exact Vector.getElem_set_ne c.isLt d.isLt fun e => hd (Fin.ext e.symm)

/-- One semaphore of a cluster set or cleared. -/
def withSemaphore (n : Fin 32) (v : Bool) (x : Cluster) : Cluster := { x with sm := setCpuBit x.sm n.val v }

/-- Settles O31: each write is a function of its cluster. -/
theorem sharedWrites : Obligations.SharedWrites := by
  intro i j jk n c s names cluster present bit
  have selected : clusterOf s = some c := clusterOf_some.2 ⟨cluster, present⟩
  have named := semaphoreOf_eq names
  have semaphore (v : Bool) : queuesWrite (sharedWrite s fun c => .semaphore c (semaphoreOf jk) v) s c (bit v) := by
    rw [named]
    exact queuesWrite_sharedWrite (withSemaphore n v) selected (fun _ => rfl)
      fun x => ⟨rfl, rfl, fun m hm => getLsbD_setCpuBit _ _ _ m hm⟩
  refine ⟨semaphore false, semaphore true, ?_, ?_, ?_⟩
  · exact queuesWrite_sharedWrite (fun x => { x with sm := smUnimage (reg s.s i) }) selected (fun _ => rfl)
      fun x => ⟨rfl, rfl, fun m hm => getLsbD_smUnimage _ hm⟩
  · exact queuesWrite_sharedWrite (fun x => { x with sb := setReg x.sb j (reg s.a i) }) selected (fun _ => rfl)
      fun x => ⟨rfl, rfl, fun r => reg_setReg _ _ _ _⟩
  · exact queuesWrite_sharedWrite (fun x => { x with st := setReg x.st j (reg s.s i) }) selected (fun _ => rfl)
      fun x => ⟨rfl, rfl, fun r => reg_setReg _ _ _ _⟩

/-! ## Reads -/

theorem sharedRead_eq {s : State} {c : Fin Config.maxClusters} {use : Cluster → State → Result}
    (selected : clusterOf s = some c) : sharedRead s use = use (deliverAll s).clusters[c] (deliverAll s) := by
  unfold sharedRead
  rw [selected]

section
variable (i j : BitVec 3) (s : State)

theorem exec_aFromSb : exec (.aFromSb i j) s = sharedRead s fun c t => finishA i (reg c.sb j) 1 t := rfl

theorem exec_sFromSt : exec (.sFromSt i j) s = sharedRead s fun c t => finishS i (reg c.st j) 1 t := rfl

theorem exec_sFromSm : exec (.sFromSm i) s = sharedRead s fun c t => finishS i (smImage c.sm) 1 t := rfl

end

/-- Settles O32: each read finishes with a register of the cluster, once this CPU's writes are delivered. -/
theorem sharedReads : Obligations.SharedReads := by
  intro i j c s cluster present u
  have selected : clusterOf s = some c := clusterOf_some.2 ⟨cluster, present⟩
  refine ⟨?_, ?_, ?_⟩
  · rw [exec_aFromSb, sharedRead_eq selected]
    exact writesA_finishA rfl
  · exact writesS_of_eq_finishS ((exec_sFromSt i j s).trans (sharedRead_eq selected)) rfl
  · exact writesS_of_eq_finishS ((exec_sFromSm i s).trans (sharedRead_eq selected)) fun p hp => getLsbD_smImage _ hp

/-! ## No cluster -/

theorem sharedWrite_refused {s : State} (write : Fin Config.maxClusters → SharedWrite) (none_ : clusterOf s = none) :
    sharedWrite s write = .refused .noCluster := by
  unfold sharedWrite
  rw [none_]

theorem sharedRead_refused {s : State} (use : Cluster → State → Result) (none_ : clusterOf s = none) :
    sharedRead s use = .refused .noCluster := by
  unfold sharedRead
  rw [none_]

theorem testAndSet_refused {s : State} (n : Fin 32) (none_ : clusterOf s = none) :
    testAndSet n s = .refused .noCluster := by
  unfold testAndSet
  rw [none_]

/-- Settles O33. -/
theorem noClusterStops : Obligations.NoClusterStops := by
  intro i j jk s outside
  have none_ : clusterOf s = none := clusterOf_none.2 outside
  exact ⟨testAndSet_refused _ none_, sharedWrite_refused _ none_, sharedWrite_refused _ none_,
    sharedWrite_refused _ none_, (exec_sFromSm i s).trans (sharedRead_refused _ none_), sharedWrite_refused _ none_,
    (exec_aFromSb i j s).trans (sharedRead_refused _ none_), sharedWrite_refused _ none_,
    (exec_sFromSt i j s).trans (sharedRead_refused _ none_)⟩

/-! ## Test and set (40 R199) -/

section
variable {s : State} {c : Fin Config.maxClusters} {n : Fin 32}

theorem testAndSet_clear (selected : clusterOf s = some c) (clear : (deliverAll s).clusters[c].sm.getLsbD n.val = false) :
    testAndSet n s = .next { advance 1 (deliverAll s) with
      clusters := applyShared (deliverAll s).clusters (.semaphore c n true), ws := false, held := none } := by
  unfold testAndSet
  rw [selected]
  dsimp only
  rw [clear]
  rfl

theorem testAndSet_set (selected : clusterOf s = some c) (set : (deliverAll s).clusters[c].sm.getLsbD n.val = true) :
    testAndSet n s =
      if othersWait s then raise causeDl { deliverAll s with ws := true, held := some n }
      else .next { deliverAll s with ws := true, held := some n } := by
  unfold testAndSet
  rw [selected]
  dsimp only
  rw [if_pos set]

end

/-- The deadlock condition, CPU by CPU (60 R517). -/
theorem othersWait_iff (s : State) :
    othersWait s = true ↔
      ∀ m : Fin 32, m.val = s.pn.toNat ∨ ncpu s.sys ≤ m.val ∨ s.peers[m].cln ≠ s.cln ∨ s.peers[m].ws = true := by
  rw [othersWait, List.all_eq_true]
  refine ⟨fun h m => ?_, fun h m _ => ?_⟩
  · have := h m (List.mem_finRange m)
    simp only [isCpu, Bool.or_eq_true, beq_iff_eq, Bool.not_eq_true', bne_iff_ne, Bool.or_eq_false_iff,
      decide_eq_false_iff_not, Nat.not_lt] at this
    rcases this with ((self | ⟨-, absent⟩) | cluster) | waits
    · exact Or.inl self
    · exact Or.inr (Or.inl absent)
    · exact Or.inr (Or.inr (Or.inl cluster))
    · exact Or.inr (Or.inr (Or.inr waits))
  · by_cases self : m.val = s.pn.toNat
    · simp [self]
    · rcases h m with self' | absent | cluster | waits
      · exact absurd self' self
      · simp [isCpu, self, absent]
      · rw [bne_iff_ne.2 cluster, Bool.or_true, Bool.true_or]
      · rw [waits, Bool.or_true]

/-- Settles O30: the bit decides between going on and waiting, and the other CPUs between a hold and the deadlock. -/
theorem testAndSet : Obligations.TestAndSet := by
  intro jk n c s names cluster present u waits waiting
  have selected : clusterOf s = some c := clusterOf_some.2 ⟨cluster, present⟩
  have named : exec (.smTestSet jk) s = Machine.testAndSet n s := by rw [← semaphoreOf_eq names]; rfl
  rw [named]
  refine ⟨fun clear => ?_, fun set ⟨m, free⟩ => ?_, fun ws set all found runs => ?_⟩
  · have written : (applyShared u.clusters (.semaphore c n true))[c] = withSemaphore n true u.clusters[c] :=
      Vector.getElem_set_self c.isLt
    refine ⟨_, testAndSet_clear selected clear, fun m hm => ?_, ?_, ?_, fun d hd => ?_, pAfter_advance _ _ _ rfl, rfl⟩
    · change ((applyShared u.clusters (.semaphore c n true))[c].sm.getLsbD m) = _
      rw [written]
      refine (getLsbD_setCpuBit _ _ _ m hm).trans ?_
      by_cases e : m = n.val
      · rw [if_pos e, decide_eq_true e, Bool.true_or]
      · rw [if_neg e, decide_eq_false e, Bool.false_or]
    · have sb := congrArg Cluster.sb written
      exact sb
    · have st := congrArg Cluster.st written
      exact st
    · exact Vector.getElem_set_ne c.isLt d.isLt fun e => hd (Fin.ext e.symm)
  · rw [testAndSet_set selected set, if_neg]
    rw [othersWait_iff]
    exact fun all => free (all m)
  · rw [testAndSet_set selected set, if_pos ((othersWait_iff s).2 all)]
    exact exchanges_raise (s := waiting) causeDl found runs

end Sys2Proof.Shared

/-! PROOFS. Jumps and branches, and the A and B registers but for the block transfers (spec/41_branch.md,
spec/42_a_register.md). -/

namespace Sys2Proof.AddressRegister

open Sys2Proof Sys2Proof.Machine Sys2Proof.Safety Sys2Proof.ControlMonitor Sys2Proof.Encoding Sys2Proof.Monitor

/-! ## Jumps -/

/-- Settles O34: each jump writes P, and 007 the address after itself to B00. -/
theorem jumps : Obligations.Jumps := by
  intro jk target s
  refine ⟨listed_row rfl, listed_row rfl, listed_row rfl, ⟨_, rfl, ?_, rfl⟩, jumpsTo_next s target,
    ⟨_, rfl, rfl, ?_, fun r hr => reg64_setReg64_ne _ _ hr, rfl⟩⟩
  · exact BitVec.toNat_setWidth _ _
  · rw [reg64_setReg64_same, BitVec.toNat_setWidth, BitVec.toNat_add]
    exact Nat.mod_eq_of_lt (Nat.lt_trans (Nat.mod_lt _ (by decide)) (by decide))

theorem branchIf_taken {c : Prop} [Decidable c] (target : BitVec 24) (s : State) (h : c) :
    jumpsTo (branchIf c target s) s target := by
  rw [branchIf, if_pos (decide_eq_true h)]
  exact jumpsTo_next s target

theorem branchIf_notTaken {c : Prop} [Decidable c] (target : BitVec 24) (s : State) (h : ¬c) :
    goesOn (branchIf c target s) s 2 := by
  refine goesOn_of_eq_advance ?_
  rw [branchIf, decide_eq_false h]
  rfl

/-- A row whose meaning is a branch on the condition. -/
theorem branch_listed {gh : BitVec 7} {i : Instr} {target : BitVec 24} {s : State} {c taken : Prop} [Decidable c]
    (row : Listed (wordBranch gh target) i) (ends : exec i s = branchIf c target s) (same : c ↔ taken) :
    Listed (wordBranch gh target) i ∧ (taken → jumpsTo (exec i s) s target) ∧ (¬taken → goesOn (exec i s) s 2) := by
  rw [ends]
  exact ⟨row, fun h => branchIf_taken target s (same.2 h), fun h => branchIf_notTaken target s (mt same.1 h)⟩

theorem eq_zero_iff {n : Nat} (x : BitVec n) : x = 0 ↔ x.toNat = 0 := by
  rw [← BitVec.toNat_inj, BitVec.ofNat_eq_ofNat, BitVec.toNat_ofNat, Nat.zero_mod]

theorem msb_false_iff {n : Nat} (x : BitVec n) : x.msb = false ↔ 0 ≤ x.toInt := by
  rw [BitVec.msb_eq_toInt, decide_eq_false_iff_not, Int.not_lt]

theorem msb_true_iff {n : Nat} (x : BitVec n) : x.msb = true ↔ x.toInt < 0 := by
  rw [BitVec.msb_eq_toInt, decide_eq_true_eq]

/-- Settles O35: zero, and the sign, as the numbers the registers hold. -/
theorem conditionalBranches : Obligations.ConditionalBranches := by
  intro t s branch
  exact ⟨branch_listed (listed_row rfl) rfl (eq_zero_iff _),
    branch_listed (listed_row rfl) rfl (not_congr (eq_zero_iff _)),
    branch_listed (listed_row rfl) rfl (msb_false_iff _),
    branch_listed (listed_row rfl) rfl (msb_true_iff _),
    branch_listed (listed_row rfl) rfl (eq_zero_iff _),
    branch_listed (listed_row rfl) rfl (not_congr (eq_zero_iff _)),
    branch_listed (listed_row rfl) rfl (msb_false_iff _),
    branch_listed (listed_row rfl) rfl (msb_true_iff _)⟩

/-! ## What each instruction writes to an A register -/

/-- An instruction that ends by writing x to Ai writes a word with every property of x. -/
theorem writesA_of_eq_finishA {out : Result} {s : State} {i : BitVec 3} {x : AWord} {n : Nat} {q : AWord → Prop}
    (ends : out = finishA i x n s) (holds : q x) : writesA out s i n q :=
  ends ▸ writesA_finishA holds

section
variable (i j k : BitVec 3) (jk : BitVec 6) (exp : AWord) (s : State)

theorem exec_aExp : exec (.aExp i exp) s = finishA i exp 3 s := rfl

theorem exec_aExpNot : exec (.aExpNot i exp) s = finishA i (~~~exp) 3 s := rfl

theorem exec_aShort : exec (.aShort i jk) s = finishA i (jk.setWidth 32) 1 s := rfl

theorem exec_aFromS : exec (.aFromS i j) s = finishA i ((readSj s j).setWidth 32) 1 s := rfl

theorem exec_aFromVl : exec (.aFromVl i) s = finishA i (s.vl.setWidth 32) 1 s := rfl

theorem exec_aFromB : exec (.aFromB i jk) s = finishA i (reg64 s.b jk) 1 s := rfl

theorem exec_aPop : exec (.aPop i j) s = finishA i (BitVec.ofNat 32 (popCount (readSj s j))) 1 s := rfl

theorem exec_aParity : exec (.aParity i j) s = finishA i (BitVec.ofNat 32 (popCount (readSj s j) % 2)) 1 s := rfl

theorem exec_aLzc : exec (.aLzc i j) s = finishA i (BitVec.ofNat 32 (leadingZeros (readSj s j))) 1 s := rfl

theorem exec_aAdd : exec (.aAdd i j k) s = finishA i (readAj s j + readAk s k) 1 s := rfl

theorem exec_aSub : exec (.aSub i j k) s = finishA i (readAj s j - readAk s k) 1 s := rfl

theorem exec_aMul : exec (.aMul i j k) s = finishA i (readAj s j * readAk s k) 1 s := rfl

theorem exec_aCopy : exec (.aCopy i k) s = finishA i (readAk s k) 1 s := rfl

theorem exec_aInc : exec (.aInc i j) s = finishA i (readAj s j + 1) 1 s := rfl

theorem exec_aMinusOne : exec (.aMinusOne i) s = finishA i (-1) 1 s := rfl

theorem exec_aNeg : exec (.aNeg i k) s = finishA i (-readAk s k) 1 s := rfl

theorem exec_aDec : exec (.aDec i j) s = finishA i (readAj s j - 1) 1 s := rfl

theorem exec_aChanInt : exec (.aChanInt i) s = finishA i (channelPriority s.sys s.chans) 1 s := rfl

theorem exec_aChanAddr {n : Fin 64} (named : channelOf s.sys (reg s.a j) = some n) :
    exec (.aChanAddr i j) s = finishA i s.chans[n].ca 1 s := by
  change execAChanAddr i j s = _
  rw [execAChanAddr, named]

theorem exec_aChanErr {n : Fin 64} (named : channelOf s.sys (reg s.a j) = some n) :
    exec (.aChanErr i j) s = finishA i ((BitVec.ofBool s.chans[n].err).setWidth 32) 1 s := by
  change execAChanErr i j s = _
  rw [execAChanErr, named]

theorem exec_aChanAddr_refused (named : channelOf s.sys (reg s.a j) = none) :
    exec (.aChanAddr i j) s = .refused .noSuchChannel := by
  change execAChanAddr i j s = _
  rw [execAChanAddr, named]

theorem exec_aChanErr_refused (named : channelOf s.sys (reg s.a j) = none) :
    exec (.aChanErr i j) s = .refused .noSuchChannel := by
  change execAChanErr i j s = _
  rw [execAChanErr, named]

end

/-- The parcels of an instruction with a 32-bit constant. -/
theorem wordExp_append (g : BitVec 4) (h i : BitVec 3) (exp : AWord) :
    [pack g h i 0 0, expLow exp, expHigh exp] = wordExp (g ++ h) i exp := by
  rw [← packJk_append]
  rfl

/-- Settles O36: each row's word, and the number each transfer writes. -/
theorem addressTransfers : Obligations.AddressTransfers := by
  intro i j jk exp s
  refine ⟨⟨listed_row (wordExp_append 2 0 i exp), listed_row (wordExp_append 2 1 i exp), listed_row rfl, listed_row rfl,
      listed_row rfl, listed_row rfl, listed_row rfl⟩,
    writesA_of_eq_finishA (exec_aExp i exp s) rfl, writesA_of_eq_finishA (exec_aExpNot i exp s) BitVec.toNat_not,
    writesA_of_eq_finishA (exec_aShort i jk s) ?_, writesA_of_eq_finishA (exec_aFromS i j s) (BitVec.toNat_setWidth _ _),
    writesA_of_eq_finishA (exec_aFromVl i s) ?_, writesA_of_eq_finishA (exec_aFromB i jk s) rfl,
    ⟨_, rfl, reg64_setReg64_same _ _ _, fun r hr => reg64_setReg64_ne _ _ hr, pAfter_advance _ _ _ rfl, rfl⟩⟩
  · exact BitVec.toNat_setWidth_of_le (by decide)
  · exact BitVec.toNat_setWidth_of_le (by decide)

/-! ## Bit counts -/

theorem toNat_ofNat_of_le {n m : Nat} (h : m ≤ 64) (w : 64 < 2 ^ n) : (BitVec.ofNat n m).toNat = m := by
  rw [BitVec.toNat_ofNat, Nat.mod_eq_of_lt (by omega)]

/-- The bits of a word above its leading 1 bit are 0, and that bit is at the place the count says. -/
theorem leadingZeros_spec (w : Word) :
    leadingZeros w ≤ 64 ∧ (∀ p < 64, 64 - leadingZeros w ≤ p → w.getLsbD p = false) ∧
      (leadingZeros w < 64 → w.getLsbD (63 - leadingZeros w) = true) := by
  obtain ⟨most, before, last⟩ := takeWhile_range_spec 64 fun m => w.getMsbD m
  refine ⟨most, fun p hp high => ?_, fun h => ?_⟩
  · have zero := before (63 - p) (by unfold leadingZeros at high; omega)
    rw [BitVec.getMsbD, decide_eq_true (by omega), Bool.true_and] at zero
    rwa [show 64 - 1 - (63 - p) = p by omega] at zero
  · have one : w.getMsbD (leadingZeros w) = true := last h
    rw [BitVec.getMsbD, decide_eq_true h, Bool.true_and] at one
    exact one

/-- Settles O37: the counts are at most 64, so an A register holds them. -/
theorem bitCounts : Obligations.BitCounts := by
  intro i j s w ones
  have count : popCount w = ones := popCount_eq_card w
  have most : ones ≤ 64 := count ▸ popCount_le w
  obtain ⟨mostZeros, zeros, one⟩ := leadingZeros_spec w
  have held : (BitVec.ofNat 32 (leadingZeros w)).toNat = leadingZeros w := toNat_ofNat_of_le mostZeros (by decide)
  refine ⟨⟨listed_row rfl, listed_row rfl, listed_row rfl⟩,
    writesA_of_eq_finishA (exec_aPop i j s) ?_, writesA_of_eq_finishA (exec_aParity i j s) ?_,
    writesA_of_eq_finishA (exec_aLzc i j s) ?_⟩
  · rw [toNat_ofNat_of_le (popCount_le _) (by decide)]
    exact count
  · rw [toNat_ofNat_of_le ((Nat.mod_lt _ (by decide)).le.trans (by decide)) (by decide)]
    exact congrArg (· % 2) count
  · change (BitVec.ofNat 32 (leadingZeros w)).toNat ≤ 64 ∧ _
    rw [held]
    exact ⟨mostZeros, zeros, one⟩

/-! ## Arithmetic -/

theorem toNat_sub_eq {n : Nat} (x y : BitVec n) : (x - y).toNat = (x.toNat + 2 ^ n - y.toNat) % 2 ^ n := by
  rw [BitVec.toNat_sub, Nat.add_comm x.toNat, Nat.sub_add_comm y.isLt.le]

/-- Settles O38: the arithmetic of 32-bit words is that of numbers modulo 2^32. -/
theorem addressArithmetic : Obligations.AddressArithmetic := by
  intro i j k s x y
  exact ⟨⟨listed_row rfl, listed_row rfl, listed_row rfl⟩,
    writesA_of_eq_finishA (exec_aAdd i j k s) (BitVec.toNat_add _ _),
    writesA_of_eq_finishA (exec_aSub i j k s) (toNat_sub_eq _ _),
    writesA_of_eq_finishA (exec_aMul i j k s) (BitVec.toNat_mul _ _),
    writesA_of_eq_finishA (exec_aCopy i k s) rfl,
    writesA_of_eq_finishA (exec_aInc i j s) (BitVec.toNat_add _ _),
    writesA_of_eq_finishA (exec_aMinusOne i s) rfl,
    writesA_of_eq_finishA (exec_aNeg i k s) (BitVec.toNat_neg _),
    writesA_of_eq_finishA (exec_aDec i j s) (toNat_sub_eq _ _)⟩

/-! ## Channel reads -/

/-- Whether a channel is configured and requests an interrupt. -/
def requesting (s : State) (n : Fin 64) : Bool := channelExists s.sys n && s.chans[n].int

theorem requesting_iff (s : State) (n : Fin 64) :
    requesting s n = true ↔ configured s n ∧ s.chans[n].int = true := by
  rw [requesting, Bool.and_eq_true, configured_iff]

theorem channelPriority_none {s : State} (none_ : ∀ n, ¬requesting s n = true) :
    channelPriority s.sys s.chans = 0 := by
  have found : (List.finRange 64).find? (requesting s) = none := List.find?_eq_none.2 fun n _ => none_ n
  unfold channelPriority
  change (match (List.finRange 64).find? (requesting s) with
    | some n => BitVec.ofNat 32 (n.val + 16)
    | none => 0) = _
  rw [found]

/-- The first of the requesting channels is the lowest. -/
theorem channelPriority_some {s : State} {n : Fin 64} (this_ : requesting s n = true)
    (lowest : ∀ l < n, ¬requesting s l = true) : channelPriority s.sys s.chans = BitVec.ofNat 32 (n.val + 16) := by
  have found : (List.finRange 64).find? (requesting s) = some n := by
    refine List.find?_eq_some_iff_getElem.2 ⟨this_, n.val, by simp, by simp, fun l hl => ?_⟩
    have := lowest ⟨l, by omega⟩ hl
    simpa using this
  unfold channelPriority
  change (match (List.finRange 64).find? (requesting s) with
    | some n => BitVec.ofNat 32 (n.val + 16)
    | none => 0) = _
  rw [found]

/-- Settles O39: the lowest requesting channel is the first one found, and the number read names its channel. -/
theorem channelReads : Obligations.ChannelReads := by
  intro i j s requests
  refine ⟨writesA_of_eq_finishA (exec_aChanInt i s) ⟨fun none_ => ?_, fun m hm lowest => ?_⟩, fun n conf names => ?_,
    fun none_ => ?_⟩
  · rw [channelPriority_none fun n => (requesting_iff s n).not.2 (none_ n)]
    rfl
  · rw [channelPriority_some ((requesting_iff s m).2 hm) fun l hl => (requesting_iff s l).not.2 (lowest l hl)]
    have := m.isLt
    rw [BitVec.toNat_ofNat, Nat.mod_eq_of_lt (by omega)]
  · have named := channelOf_configured conf names
    refine ⟨writesA_of_eq_finishA (exec_aChanAddr i j s named) rfl, writesA_of_eq_finishA (exec_aChanErr i j s named) ?_⟩
    cases s.chans[n].err <;> rfl
  · have named := channelOf_unconfigured none_
    exact ⟨exec_aChanAddr_refused i j s named, exec_aChanErr_refused i j s named⟩

end Sys2Proof.AddressRegister

/-! PROOFS. Immediates, double shifts, floating point and transfers of the S registers (spec/43_s_register_integer.md,
spec/44_s_register_float_transfer.md). -/

namespace Sys2Proof.ScalarTransfer

open Sys2Proof Sys2Proof.Machine Sys2Proof.Safety Sys2Proof.ControlMonitor Sys2Proof.ScalarRegister Sys2Proof.Encoding
  Sys2Proof.Monitor Sys2Proof.AddressRegister Sys2Proof.Exchange

/-! ## What each instruction writes -/

section
variable (i j k : BitVec 3) (jk : BitVec 6) (exp : AWord) (s : State)

theorem exec_sExp : exec (.sExp i exp) s = finishS i (exp.setWidth 64) 3 s := rfl

theorem exec_sExpNot : exec (.sExpNot i exp) s = finishS i (~~~(exp.setWidth 64)) 3 s := rfl

theorem exec_sMaskRight : exec (.sMaskRight i jk) s = finishS i (maskRight jk) 1 s := rfl

theorem exec_sZeroesLeft : exec (.sZeroesLeft i jk) s = finishS i (maskRight jk) 1 s := rfl

theorem exec_sIntOne : exec (.sIntOne i) s = finishS i 1 1 s := rfl

theorem exec_sMinusOne : exec (.sMinusOne i) s = finishS i (-1) 1 s := rfl

theorem exec_sMaskLeft : exec (.sMaskLeft i jk) s = finishS i (maskLeft jk) 1 s := rfl

theorem exec_sZeroesRight : exec (.sZeroesRight i jk) s = finishS i (maskLeft jk) 1 s := rfl

theorem exec_sClear : exec (.sClear i) s = finishS i 0 1 s := rfl

theorem exec_sDoubleLeft :
    exec (.sDoubleLeft i j k) s = finishS i (doubleLeft (reg s.s i) (readSj s j) (readAk s k).toNat) 1 s := rfl

theorem exec_sDoubleLeftOne : exec (.sDoubleLeftOne i j) s = finishS i (doubleLeft (reg s.s i) (readSj s j) 1) 1 s := rfl

theorem exec_sLeftByA : exec (.sLeftByA i k) s = finishS i (shiftLeft (reg s.s i) (readAk s k).toNat) 1 s := rfl

theorem exec_sDoubleRight :
    exec (.sDoubleRight i j k) s = finishS i (doubleRight (readSj s j) (reg s.s i) (readAk s k).toNat) 1 s := rfl

theorem exec_sDoubleRightOne :
    exec (.sDoubleRightOne i j) s = finishS i (doubleRight (readSj s j) (reg s.s i) 1) 1 s := rfl

theorem exec_sRightByA : exec (.sRightByA i k) s = finishS i (shiftRight (reg s.s i) (readAk s k).toNat) 1 s := rfl

theorem exec_sFromA : exec (.sFromA i k) s = finishS i ((readAk s k).setWidth 64) 1 s := rfl

theorem exec_sFromASigned : exec (.sFromASigned i k) s = finishS i ((readAk s k).signExtend 64) 1 s := rfl

theorem exec_sFloatFromA : exec (.sFloatFromA i k) s = finishS i (aToFloat (readAk s k)) 1 s := rfl

theorem exec_sThreeQuarters : exec (.sThreeQuarters i) s = finishS i (fconst 3) 1 s := rfl

theorem exec_sHalf : exec (.sHalf i) s = finishS i (fconst 4) 1 s := rfl

theorem exec_sOne : exec (.sOne i) s = finishS i (fconst 5) 1 s := rfl

theorem exec_sTwo : exec (.sTwo i) s = finishS i (fconst 6) 1 s := rfl

theorem exec_sFour : exec (.sFour i) s = finishS i (fconst 7) 1 s := rfl

theorem exec_sFromRt : exec (.sFromRt i) s = finishS i s.rtc 1 s := rfl

theorem exec_sFromVm : exec (.sFromVm i) s = finishS i s.vm 1 s := rfl

theorem exec_sFromT : exec (.sFromT i jk) s = finishS i (reg64 s.t jk) 1 s := rfl

theorem exec_sFromV : exec (.sFromV i j k) s = finishS i (element s j (elementOf (readAk s k)).toNat) 1 s := rfl

end

/-! ## Immediates and masks -/

theorem getLsbD_maskRight (jk : BitVec 6) (p : Nat) (hp : p < 64) :
    (maskRight jk).getLsbD p = decide (p < 64 - jk.toNat) := by
  rw [maskRight, BitVec.getLsbD_ofNat, Nat.testBit_two_pow_sub_one, decide_eq_true hp, Bool.true_and]

theorem getLsbD_maskLeft (jk : BitVec 6) (p : Nat) (hp : p < 64) :
    (maskLeft jk).getLsbD p = decide (64 ≤ p + jk.toNat) := by
  have := jk.isLt
  rw [maskLeft, BitVec.getLsbD_ofNat, Nat.testBit_mul_two_pow, Nat.testBit_two_pow_sub_one, decide_eq_true hp,
    Bool.true_and, ← Bool.decide_and]
  exact decide_eq_decide.2 (by omega)

/-- Settles O42: the special forms of the masks are 1, all ones and 0. -/
theorem scalarImmediates : Obligations.ScalarImmediates := by
  intro i jk exp s right left
  have mask : right (64 - jk.toNat) (maskRight jk) := getLsbD_maskRight jk
  have maskL : left jk.toNat (maskLeft jk) := getLsbD_maskLeft jk
  have one : right 1 1 := by decide
  have ones : right 64 (-1) := by decide
  have zero : left 0 0 := by decide
  exact ⟨⟨listed_row (wordExp_append 4 0 i exp), listed_row (wordExp_append 4 1 i exp), listed_row rfl, listed_row rfl⟩,
    writesS_of_eq_finishS (exec_sExp i exp s) (BitVec.toNat_setWidth_of_le (by decide)),
    writesS_of_eq_finishS (exec_sExpNot i exp s)
      (by rw [BitVec.toNat_not, BitVec.toNat_setWidth_of_le (by decide)]),
    writesS_of_eq_finishS (exec_sMaskRight i jk s) mask, writesS_of_eq_finishS (exec_sZeroesLeft i jk s) mask,
    writesS_of_eq_finishS (exec_sIntOne i s) one, writesS_of_eq_finishS (exec_sMinusOne i s) ones,
    writesS_of_eq_finishS (exec_sMaskLeft i jk s) maskL, writesS_of_eq_finishS (exec_sZeroesRight i jk s) maskL,
    writesS_of_eq_finishS (exec_sClear i s) zero⟩

/-! ## Double shifts -/

/-- Settles O45: the special forms shift a word joined with a 1 count or with 0. -/
theorem scalarDoubleShifts : Obligations.ScalarDoubleShifts := by
  intro i j k s left right c
  have atLeft (high low : Word) (n : Nat) : left high low n (doubleLeft high low n) := toNat_doubleLeft high low n
  have atRight (high low : Word) (n : Nat) : right high low n (doubleRight high low n) := toNat_doubleRight high low n
  exact ⟨⟨listed_row rfl, listed_row rfl⟩,
    writesS_of_eq_finishS (exec_sDoubleLeft i j k s) (atLeft _ _ _),
    writesS_of_eq_finishS (exec_sDoubleLeftOne i j s) (atLeft _ _ _),
    writesS_of_eq_finishS (exec_sLeftByA i k s) (doubleLeft_zero (reg s.s i) c ▸ atLeft _ _ _),
    writesS_of_eq_finishS (exec_sDoubleRight i j k s) (atRight _ _ _),
    writesS_of_eq_finishS (exec_sDoubleRightOne i j s) (atRight _ _ _),
    writesS_of_eq_finishS (exec_sRightByA i k s) (doubleRight_zero (reg s.s i) c ▸ atRight _ _ _)⟩

/-! ## Floating point -/

/-- A floating-point check that finds no enabled error goes on; an enabled error exchanges. -/
theorem finishFloat_disabled {s : State} (error : Bool) (off : s.modes.ifp = false) :
    finishFloat error s = .next s := by
  rw [finishFloat, off]
  rfl

theorem finishFloat_fine (s : State) : finishFloat false s = .next s := by
  rw [finishFloat, Bool.and_false]
  rfl

theorem finishFloat_error {s : State} (on : s.modes.ifp = true) : finishFloat true s = raise causeFpe s := by
  rw [finishFloat, on]
  rfl

/-- An enabled error is taken with the requests pending, from the state with the result written (60 R512, R513). -/
theorem exchanges_finishFloat {s : State} {ws : List Word} (on : s.modes.ifp = true) (found : packageAt s ws)
    (runs : runnable ws) :
    exchanges (finishFloat true s) s (s.flags.union (causeFpe.union (pendingCauses s))) ws := by
  rw [finishFloat_error on]
  exact exchanges_raise causeFpe found runs

/-- A scalar floating-point instruction, from the value and the error of its function. -/
theorem floatS_ends {out : Result} {s : State} {i : BitVec 3} {value : Word} {error : Bool}
    (ends : out = floatS i value error s) :
    (s.modes.ifp = false → writesS out s i 1 (· = value)) ∧
      (s.modes.ifp = true →
        (error = false ∧ writesS out s i 1 (· = value)) ∨
          (error = true ∧ ∀ ws, packageAt s ws → runnable ws →
            exchanges out { s with s := setReg s.s i value, p := s.p + 1 }
              (s.flags.union (causeFpe.union (pendingCauses s))) ws)) := by
  subst ends
  refine ⟨fun off => writesS_of_eq_finishS (finishFloat_disabled error off) rfl, fun on => ?_⟩
  cases error with
  | false => exact .inl ⟨rfl, writesS_of_eq_finishS (finishFloat_fine _) rfl⟩
  | true =>
    exact .inr ⟨rfl, fun ws found runs =>
      exchanges_finishFloat (s := { s with s := setReg s.s i value, p := s.p + 1 }) on found runs⟩

/-- Settles O47: each instruction is the scalar result with its check. -/
theorem scalarFloat : Obligations.ScalarFloat := by
  intro i j k s x y float
  exact ⟨floatS_ends rfl, floatS_ends rfl, floatS_ends rfl, floatS_ends rfl, floatS_ends rfl, floatS_ends rfl,
    floatS_ends rfl, floatS_ends rfl, floatS_ends rfl⟩

/-! ## Transfers -/

/-- The coefficient of a number converted from A (44 R343). -/
def coefficient (a : AWord) : BitVec 48 := if a.msb then (0 - a).setWidth 48 else a.setWidth 48

theorem aToFloat_eq (a : AWord) : aToFloat a = BitVec.ofBool a.msb ++ (0o40060#15 ++ coefficient a) := rfl

theorem toNat_coefficient (a : AWord) : (coefficient a).toNat = a.toInt.natAbs := by
  have bound := a.isLt
  have sign := BitVec.msb_eq_decide a
  rw [BitVec.toInt_eq_msb_cond]
  cases h : a.msb with
  | false =>
    simp only [coefficient, h, Bool.false_eq_true, if_false, BitVec.toNat_setWidth]
    omega
  | true =>
    have high : 2 ^ 31 ≤ a.toNat := by simpa [h] using sign.symm
    simp only [coefficient, h, if_true, BitVec.toNat_setWidth, BitVec.toNat_sub, BitVec.ofNat_eq_ofNat,
      BitVec.toNat_ofNat]
    omega

/-- The number's sign bit, exponent and coefficient as one sum. -/
theorem toNat_aToFloat (a : AWord) :
    (aToFloat a).toNat = a.msb.toNat * 2 ^ 63 + (0o40060 * 2 ^ 48 + (coefficient a).toNat) := by
  have inner : (0o40060#15 ++ coefficient a : BitVec 63).toNat = 0o40060 * 2 ^ 48 + (coefficient a).toNat := by
    rw [BitVec.toNat_append, ← Nat.shiftLeft_add_eq_or_of_lt (coefficient a).isLt, Nat.shiftLeft_eq]
    rfl
  rw [aToFloat_eq, BitVec.toNat_append, ← Nat.shiftLeft_add_eq_or_of_lt (BitVec.isLt _), Nat.shiftLeft_eq, inner,
    BitVec.toNat_ofBool]

theorem aToFloat_fields (a : AWord) :
    (aToFloat a).toNat % 2 ^ 48 = a.toInt.natAbs ∧ (aToFloat a).toNat / 2 ^ 48 % 2 ^ 15 = 0o40060 ∧
      ((aToFloat a).getLsbD 63 = true ↔ a.toInt < 0) := by
  have value := toNat_aToFloat a
  have small := (coefficient a).isLt
  refine ⟨?_, ?_, ?_⟩
  · rw [value, ← toNat_coefficient]
    omega
  · rw [value]
    omega
  · have top : (aToFloat a).getLsbD 63 = a.msb := by
      rw [aToFloat_eq, BitVec.getLsbD_append, if_neg (by decide)]
      cases a.msb <;> rfl
    rw [top, msb_true_iff]

/-- Settles O48. -/
theorem transfersFromA : Obligations.TransfersFromA := by
  intro i k s x
  exact ⟨writesS_of_eq_finishS (exec_sFromA i k s) (BitVec.toNat_setWidth_of_le (by decide)),
    writesS_of_eq_finishS (exec_sFromASigned i k s) (BitVec.toInt_signExtend_of_le (by decide)),
    writesS_of_eq_finishS (exec_sFloatFromA i k s) (aToFloat_fields x),
    writesS_of_eq_finishS (exec_sThreeQuarters i s) rfl, writesS_of_eq_finishS (exec_sHalf i s) rfl,
    writesS_of_eq_finishS (exec_sOne i s) rfl, writesS_of_eq_finishS (exec_sTwo i s) rfl,
    writesS_of_eq_finishS (exec_sFour i s) rfl⟩

/-- Settles O49. -/
theorem specialReads : Obligations.SpecialReads := fun i s =>
  ⟨writesS_of_eq_finishS (exec_sFromRt i s) rfl, writesS_of_eq_finishS (exec_sFromVm i s) rfl,
    _, rfl, fun _ hr => reg_setReg_ne _ _ hr, pAfter_advance _ _ _ rfl, rfl⟩

theorem toNat_elementOf (a : AWord) : (elementOf a).toNat = a.toNat % 64 := by
  rw [elementOf, low_six, BitVec.toNat_ofNat]

/-- An element of a V register after one of its elements is written. -/
theorem element_setReg64 (s : State) (i : BitVec 3) (e : BitVec 6) (value : Word) {f : Nat} (hf : f < 64) :
    element { s with v := setReg s.v i (setReg64 (reg s.v i) e value) } i f =
      if f = e.toNat then value else element s i f := by
  rw [element_lt _ _ _ hf, element_lt _ _ _ hf]
  simp only [reg_setReg_same, setReg64, Vector.getElem_set, eq_comm]

/-- Settles O50. -/
theorem tAndElementTransfers : Obligations.TAndElementTransfers := by
  intro i j k jk s e puts
  have he : (elementOf (readAk s k)).toNat = e := toNat_elementOf _
  have put (value : Word) :
      puts (.next { advance 1 s with v := setReg s.v i (setReg64 (reg s.v i) (elementOf (readAk s k)) value) })
        value :=
    ⟨_, rfl, fun f hf => he ▸ element_setReg64 s i _ value hf, fun r hr => reg_setReg_ne _ _ hr,
      pAfter_advance _ _ _ rfl, rfl⟩
  exact ⟨⟨listed_row rfl, listed_row rfl, listed_row rfl, listed_row rfl⟩,
    writesS_of_eq_finishS (exec_sFromT i jk s) rfl,
    ⟨_, rfl, reg64_setReg64_same _ _ _, fun r hr => reg64_setReg64_ne _ _ hr, pAfter_advance _ _ _ rfl, rfl⟩,
    writesS_of_eq_finishS (exec_sFromV i j k s) (he ▸ rfl), put _, put _⟩

end Sys2Proof.ScalarTransfer

/-! PROOFS. The vector operations and the mask tests (spec/46_vector_logical_shift_integer.md,
spec/47_vector_float_mask_memory.md, sections 1 to 3). -/

namespace Sys2Proof.VectorRegister

open Sys2Proof Sys2Proof.Machine Sys2Proof.Safety Sys2Proof.Encoding Sys2Proof.Monitor Sys2Proof.AddressRegister
  Sys2Proof.ScalarTransfer

/-- An instruction that ends by writing the elements f to Vi writes elements with every property of them. -/
theorem writesV_of_eq_finishV {out : Result} {s : State} {i : BitVec 3} {f : Nat → Word} {q : Nat → Word → Prop}
    (ends : out = finishV i f s) (holds : ∀ e, q e (f e)) : writesV out s i q :=
  ends ▸ writesV_finishV fun e _ _ => holds e

/-! ## Logical operations and merges -/

/-- Settles O54: each instruction ends by writing one logical operation of the bits of two words in each element. -/
theorem vectorLogical : Obligations.VectorLogical := by
  intro i j k s bits picks x vj vk
  have and_ (a b : Word) : ∀ p < 64, (a &&& b).getLsbD p = (a.getLsbD p && b.getLsbD p) :=
    fun _ _ => BitVec.getLsbD_and
  have or_ (a b : Word) : ∀ p < 64, (a ||| b).getLsbD p = (a.getLsbD p || b.getLsbD p) :=
    fun _ _ => BitVec.getLsbD_or
  have xor_ (a b : Word) : ∀ p < 64, (a ^^^ b).getLsbD p = (a.getLsbD p != b.getLsbD p) :=
    fun _ _ => BitVec.getLsbD_xor
  exact ⟨writesV_of_eq_finishV rfl fun e => and_ (x e) (vk e), writesV_of_eq_finishV rfl fun e => and_ (vj e) (vk e),
    writesV_of_eq_finishV rfl fun e => or_ (x e) (vk e), writesV_of_eq_finishV rfl fun e => or_ (vj e) (vk e),
    writesV_of_eq_finishV rfl fun _ _ _ => rfl,
    writesV_of_eq_finishV rfl fun e => xor_ (x e) (vk e), writesV_of_eq_finishV rfl fun e => xor_ (vj e) (vk e),
    writesV_of_eq_finishV rfl fun _ _ _ => BitVec.getLsbD_zero,
    writesV_of_eq_finishV rfl fun _ => rfl, writesV_of_eq_finishV rfl fun _ => rfl,
    writesV_of_eq_finishV rfl fun _ => rfl⟩

/-! ## Shifts and integer arithmetic -/

/-- Settles O55: shifts, sums and differences of 64-bit words are those of numbers modulo 2^64. -/
theorem vectorInteger : Obligations.VectorInteger := by
  intro i j k s c x vj vk gives
  exact ⟨⟨listed_row rfl, listed_row rfl, listed_row rfl, listed_row rfl, listed_row rfl, listed_row rfl⟩,
    writesV_of_eq_finishV rfl fun _ => toNat_shiftLeft _ _,
    writesV_of_eq_finishV rfl fun _ => toNat_shiftLeft _ 1,
    writesV_of_eq_finishV rfl fun _ => toNat_shiftRight _ _,
    writesV_of_eq_finishV rfl fun _ => toNat_shiftRight _ 1,
    writesV_of_eq_finishV rfl fun _ => BitVec.toNat_add _ _,
    writesV_of_eq_finishV rfl fun _ => BitVec.toNat_add _ _,
    writesV_of_eq_finishV rfl fun _ => toNat_sub_eq _ _,
    writesV_of_eq_finishV rfl fun _ => BitVec.toNat_neg _,
    writesV_of_eq_finishV rfl fun _ => toNat_sub_eq _ _⟩

section
variable {i j : BitVec 3} {count : AWord} (s : State)

theorem doubleLeftV_of_ne (ne : i ≠ j) (small : count.toNat < 64) :
    doubleLeftV i j count s =
      finishV i (fun e =>
        doubleLeft (element s j e) (if e + 1 = s.vl.toNat then 0 else element s j (e + 1)) count.toNat) s := by
  rw [doubleLeftV, if_neg ne, if_neg (Nat.not_le.2 small)]

theorem doubleRightV_of_ne (ne : i ≠ j) (small : count.toNat < 64) :
    doubleRightV i j count s =
      finishV i (fun e => doubleRight (if e = 0 then 0 else element s j (e - 1)) (element s j e) count.toNat) s := by
  rw [doubleRightV, if_neg ne, if_neg (Nat.not_le.2 small)]

theorem doubleLeftV_count (ne : i ≠ j) (large : 64 ≤ count.toNat) :
    doubleLeftV i j count s = .refused .doubleShiftCount := by
  rw [doubleLeftV, if_neg ne, if_pos large]

theorem doubleRightV_count (ne : i ≠ j) (large : 64 ≤ count.toNat) :
    doubleRightV i j count s = .refused .doubleShiftCount := by
  rw [doubleRightV, if_neg ne, if_pos large]

end

/-- The number of a word that is 0 in one case. -/
theorem toNat_ite_zero {c : Prop} [Decidable c] (w : Word) :
    (if c then 0 else w : Word).toNat = if c then 0 else w.toNat := by
  split <;> rfl

/-- Settles O56: below 64 the count meets neither stop, and past the ends of the vector the joined word is 0. -/
theorem vectorDoubleShifts : Obligations.VectorDoubleShifts := by
  intro i j k s c v next previous left right
  have shiftsLeft (ne : i ≠ j) {count : AWord} (small : count.toNat < 64) :
      left (doubleLeftV i j count s) count.toNat :=
    writesV_of_eq_finishV (doubleLeftV_of_ne s ne small) fun e => by rw [toNat_doubleLeft, toNat_ite_zero]
  have shiftsRight (ne : i ≠ j) {count : AWord} (small : count.toNat < 64) :
      right (doubleRightV i j count s) count.toNat :=
    writesV_of_eq_finishV (doubleRightV_of_ne s ne small) fun e => by rw [toNat_doubleRight, toNat_ite_zero]
  exact ⟨fun ne => ⟨shiftsLeft ne (count := 1) (by decide), shiftsRight ne (count := 1) (by decide)⟩,
    fun ne small => ⟨shiftsLeft ne small, shiftsRight ne small⟩,
    fun ne large => ⟨doubleLeftV_count s ne large, doubleRightV_count s ne large⟩, if_pos rfl, if_pos rfl⟩

/-! ## Floating point and bit counts -/

theorem someElement_iff (s : State) (test : Nat → Bool) :
    someElement s test = true ↔ ∃ e < s.vl.toNat, test e = true := by
  simp [someElement]

/-- A vector floating-point instruction, from the values and the errors of its function. -/
theorem floatV_ends {out : Result} {s : State} {i : BitVec 3} {value : Nat → Word} {error : Nat → Bool}
    (ends : out = floatV i value error s) :
    (s.modes.ifp = false → writesV out s i fun e w => w = value e) ∧
      (s.modes.ifp = true →
        ((∀ e < s.vl.toNat, error e = false) ∧ writesV out s i fun e w => w = value e) ∨
          ((∃ e < s.vl.toNat, error e = true) ∧ ∀ ws, packageAt s ws → runnable ws →
            exchanges out { s with v := setReg s.v i (vectorWith s.vl (reg s.v i) value), p := s.p + 1 }
              (s.flags.union (causeFpe.union (pendingCauses s))) ws)) := by
  subst ends
  refine ⟨fun off => writesV_of_eq_finishV (finishFloat_disabled _ off) fun _ => rfl, fun on => ?_⟩
  unfold floatV
  cases some_ : someElement s error with
  | false =>
    have none_ : ∀ e < s.vl.toNat, error e = false := by simpa [someElement] using some_
    exact .inl ⟨none_, writesV_of_eq_finishV (finishFloat_fine _) fun _ => rfl⟩
  | true =>
    exact .inr ⟨(someElement_iff s error).1 some_, fun ws found runs =>
      exchanges_finishFloat
        (s := { s with v := setReg s.v i (vectorWith s.vl (reg s.v i) value), p := s.p + 1 }) on found runs⟩

/-- Settles O57: each floating-point instruction is the vector result with its check, and the others have no check. -/
theorem vectorFloat : Obligations.VectorFloat := by
  intro i j k s x vj vk ones float pair
  have count (w : Word) : popCount w = ones w := popCount_eq_card w
  refine ⟨⟨floatV_ends rfl, floatV_ends rfl⟩, ⟨floatV_ends rfl, floatV_ends rfl⟩, ⟨floatV_ends rfl, floatV_ends rfl⟩,
    ⟨floatV_ends rfl, floatV_ends rfl⟩, ⟨floatV_ends rfl, floatV_ends rfl⟩, floatV_ends rfl, floatV_ends rfl,
    floatV_ends rfl, floatV_ends rfl, writesV_of_eq_finishV rfl fun _ => rfl,
    writesV_of_eq_finishV rfl fun e => ?_, writesV_of_eq_finishV rfl fun e => ?_⟩
  · rw [toNat_ofNat_of_le (popCount_le _) (by decide), count]
  · rw [toNat_ofNat_of_le ((Nat.mod_lt _ (by decide)).le.trans (by decide)) (by decide), count]

/-! ## Mask tests -/

theorem isZero_eq : isZero = fun w => decide (w.toNat = 0) :=
  funext fun w => decide_eq_decide.2 (eq_zero_iff w)

theorem isNonzero_eq : isNonzero = fun w => decide (w.toNat ≠ 0) :=
  funext fun w => by
    rw [isNonzero, bne, ← isZero, isZero_eq, ← decide_not]

theorem isPlus_eq : isPlus = fun w => decide (0 ≤ w.toInt) :=
  funext fun w => by
    rw [isPlus, BitVec.msb_eq_toInt, ← decide_not]
    exact decide_eq_decide.2 Int.not_lt

theorem isMinus_eq : isMinus = fun w => decide (w.toInt < 0) :=
  funext fun _ => BitVec.msb_eq_toInt

/-- VM after a mask test, by element (log 17). -/
theorem getLsbD_maskWith (vl : BitVec 7) (test : Nat → Bool) {e : Nat} (he : e < 64) :
    (maskWith vl test).getLsbD (63 - e) = (decide (e < vl.toNat) && test e) := by
  have back : vmBit (63 - e) = e := by rw [vmBit]; omega
  rw [maskWith, getLsbD_bitsOf, decide_eq_true (by omega), Bool.true_and, back]
  by_cases below : e < vl.toNat
  · rw [if_pos below, decide_eq_true below, Bool.true_and]
  · rw [if_neg below, decide_eq_false below, Bool.false_and]
    rfl

/-- Element n after the numbers found are packed: the number found at place n, or what it was. -/
theorem getElem_compressedInto (old : Vector Word 64) (found : List Nat) {n : Nat} (hn : n < 64) :
    (compressedInto old found)[n] = if h : n < found.length then BitVec.ofNat 64 found[n] else old[n] := by
  rw [compressedInto, Vector.getElem_ofFn]
  by_cases h : n < found.length
  · rw [dif_pos h]
    simp [h]
  · rw [dif_neg h]
    simp [h]

section
variable {out : Result} {s : State} {i j : BitVec 3} {test : Word → Bool}

/-- What a mask test writes to VM. -/
def maskOf (s : State) (j : BitVec 3) (test : Word → Bool) (w : Word) : Prop :=
  ∀ e < 64, w.getLsbD (63 - e) = (decide (e < s.vl.toNat) && test (element s j e))

theorem maskOf_maskWith (s : State) (j : BitVec 3) (test : Word → Bool) :
    maskOf s j test (maskWith s.vl fun e => test (element s j e)) :=
  fun _ he => getLsbD_maskWith _ _ he

theorem writesVm_maskTest (ends : out = maskTest j test s) : writesVm out s (maskOf s j test) :=
  ⟨_, ends, maskOf_maskWith s j test, pAfter_advance _ _ _ rfl, rfl⟩

/-- What a mask test with indexes writes besides. -/
def packsInto (out : Result) (s : State) (i j : BitVec 3) (test : Word → Bool) : Prop :=
  let found := testedElements s.vl fun e => test (element s j e)
  ∃ t, out = .next t ∧ maskOf s j test t.vm ∧
    (∀ n < 64, element t i n = if h : n < found.length then BitVec.ofNat 64 found[n] else element s i n) ∧
    (∀ r, r ≠ i → reg t.v r = reg s.v r) ∧ pAfter s t 1 ∧ t = { s with vm := t.vm, v := t.v, p := t.p }

theorem packsInto_maskTestIndexed (ends : out = maskTestIndexed i j test s) (ne : i ≠ j) :
    packsInto out s i j test := by
  rw [maskTestIndexed, if_neg ne] at ends
  refine ⟨_, ends, maskOf_maskWith s j test, fun n hn => ?_, fun r hr => reg_setReg_ne _ _ hr,
    pAfter_advance _ _ _ rfl, rfl⟩
  rw [element_lt _ _ _ hn, element_lt _ _ _ hn]
  simp only [reg_setReg_same]
  exact getElem_compressedInto _ _ hn

end

/-- Settles O58: the four conditions, as numbers, are the four tests of the model. -/
theorem maskTests : Obligations.MaskTests := by
  intro i j s mask found tests packs
  have tested (plain indexed : BitVec 3 → Instr) (test : Word → Bool) (h : exec (plain j) s = maskTest j test s)
      (h' : exec (indexed j) s = maskTestIndexed j j test s) : tests plain indexed test :=
    ⟨writesVm_maskTest h, h'.trans (if_pos rfl)⟩
  rw [← isZero_eq, ← isNonzero_eq, ← isPlus_eq, ← isMinus_eq]
  exact ⟨tested _ _ _ rfl rfl, tested _ _ _ rfl rfl, tested _ _ _ rfl rfl, tested _ _ _ rfl rfl,
    fun ne => ⟨packsInto_maskTestIndexed rfl ne, packsInto_maskTestIndexed rfl ne, packsInto_maskTestIndexed rfl ne,
      packsInto_maskTestIndexed rfl ne⟩⟩

end Sys2Proof.VectorRegister

/-! PROOFS. What a reference to memory answers and leaves (spec/20_memory.md, sections 3, 6 and 7), and the scalar loads
and stores (spec/45_scalar_memory.md). -/

namespace Sys2Proof.References

open Sys2Proof Sys2Proof.Machine Sys2Proof.Safety Sys2Proof.Invariant

/-! ## Data addresses -/

section
variable {l : AWord} {s : State}

theorem dataAddress_inRange (range : dataInRange s l = true) : dataAddress l s = .done (absoluteOf s l) := by
  rw [dataAddress, if_pos range]

theorem dataAddress_rangeError (range : dataInRange s l = false) (ior : s.modes.ior = true) :
    dataAddress l s = .rangeError := by
  rw [dataAddress, range, ior]
  rfl

theorem dataAddress_refused (range : dataInRange s l = false) (ior : s.modes.ior = false) :
    dataAddress l s = .refused .operandRange := by
  rw [dataAddress, range, ior]
  rfl

end

/-! ## Reads -/

section
variable {a : Nat} {s : State}

theorem absRead_absent (above : memWords s.sys ≤ a) : absRead a s = .fault .memoryAbsent := if_pos above

theorem absRead_noValue (exists_ : a < memWords s.sys) (none_ : wordAt s a = none) :
    absRead a s = .fault .memoryNoValue := by
  rw [absRead, if_neg (Nat.not_le.2 exists_)]
  dsimp only
  rw [readWord_performSection, none_]

end

/-! ## Writes -/

/-- The state with the word v for the word at a in flight (20 R105, R108). -/
def queueWrite (s : State) (a : Nat) (v : Word) : State :=
  { s with pending := s.pending ++ [(a, v)], ibufStored := markStored a s.ibufStored }

section
variable {a : Nat} {v : Word} {s : State}

theorem absWrite_absent (above : memWords s.sys ≤ a) : absWrite a v s = .fault .memoryAbsent := if_pos above

theorem absWrite_exists (exists_ : a < memWords s.sys) : absWrite a v s = .done (queueWrite s a v) :=
  if_neg (Nat.not_le.2 exists_)

theorem wordAt_queueWrite_same : wordAt (queueWrite s a v) a = some v := wordAt_append_same s a v

theorem byteAt_queueWrite_ne {b : Nat} (ne : b / 8 ≠ a) : byteAt (queueWrite s a v) b = byteAt s b := by
  have outside : ¬(8 * a ≤ b ∧ b < 8 * a + 8) := by omega
  exact (byteAt_append s a v b).trans (if_neg outside)

theorem wordAt_queueWrite_ne {x : Nat} (ne : x ≠ a) : wordAt (queueWrite s a v) x = wordAt s x :=
  wordAt_congr fun _ hb => byteAt_queueWrite_ne (hb ▸ ne)

theorem mem_ibufStored_queueWrite {x : Nat} : x ∈ (queueWrite s a v).ibufStored ↔ x ∈ s.ibufStored ∨ x = a :=
  mem_markStored

end

/-! ## The cache line of a scalar reference -/

/-- Keeping a line leaves what a scalar reference may leave (20 R97, R100). -/
theorem cachesScalar_cacheKeep {s t : State} {a : Nat} {v : Word} (kept : t.cache = cacheKeep s a v) :
    cachesScalar s t a v := by
  refine ⟨fun off => ?_, fun on => ?_, fun x ne => ?_⟩
  · rw [kept, cacheKeep, off]
    rfl
  · by_cases room : ((cacheFind s.cache a).isSome || decide (s.cache.length < Config.cacheLines)) = true
    · refine .inl ?_
      rw [kept, cacheKeep, on, if_neg (by decide), if_pos room, cacheFind_cacheInsert_same]
    · obtain ⟨absent, -⟩ : (cacheFind s.cache a).isSome = false ∧ _ := by
        rwa [Bool.not_eq_true, Bool.or_eq_false_iff] at room
      refine .inr ⟨Option.isSome_eq_false_iff.1 absent |> Option.isNone_iff_eq_none.1, ?_⟩
      rw [kept, cacheKeep, on, if_neg (by decide), if_neg room]
  · rcases cacheKeep_cases s a v with same | ⟨-, -, insert⟩
    · rw [kept, same]
    · rw [kept, insert, cacheFind_cacheInsert_ne _ _ ne]

/-- A line that is found stays, and so do the others. -/
theorem cachesScalar_found {s : State} {a : Nat} {v : Word} (found : cacheFind s.cache a = some v) :
    cachesScalar s s a v :=
  ⟨fun _ => rfl, fun _ => .inl found, fun _ _ => rfl⟩

/-! ## Scalar references -/

/-- A scalar read in range answers the value a scalar reference finds, and leaves every byte. -/
theorem scalarRead_of_value {l : AWord} {w : Word} {s : State} (range : dataInRange s l = true)
    (value : scalarValue s (absoluteOf s l) = some w) :
    ∃ u, scalarRead l s = .done (w, u) ∧ (∀ b, byteAt u b = byteAt s b) ∧ cachesScalar s u (absoluteOf s l) w ∧
      u = { s with mem := u.mem, pending := u.pending, cache := u.cache } := by
  unfold scalarValue at value
  rw [scalarRead, dataAddress_inRange range]
  dsimp only [Access.andThen]
  cases line : (if s.ce then cacheFind s.cache (absoluteOf s l) else none) with
  | some v =>
    rw [line] at value
    obtain rfl : v = w := Option.some.inj value
    have found : cacheFind s.cache (absoluteOf s l) = some v := by
      split at line
      · exact line
      · cases line
    exact ⟨s, rfl, fun _ => rfl, cachesScalar_found found, rfl⟩
  | none =>
    rw [line] at value
    dsimp only at value
    split at value
    · next exists_ =>
      rw [absRead_of_wordAt exists_ value]
      exact ⟨_, rfl, byteAt_performSection _ s, cachesScalar_cacheKeep rfl, rfl⟩
    · cases value

/-- A scalar write in range queues the word and keeps its line. -/
theorem scalarWrite_of_exists {l : AWord} {v : Word} {s : State} (range : dataInRange s l = true)
    (exists_ : absoluteOf s l < memWords s.sys) :
    scalarWrite l v s =
      .done { queueWrite s (absoluteOf s l) v with cache := cacheKeep s (absoluteOf s l) v } := by
  rw [scalarWrite, dataAddress_inRange range]
  dsimp only [Access.andThen]
  rw [absWrite_exists exists_]
  rfl

/-- A scalar load in range, whatever register it writes. -/
theorem loads_scalarLoad {l : AWord} {w : Word} {s : State} {out : Result} {write : Word → State → State}
    (ends : out = scalarLoad l write s) (range : dataInRange s l = true)
    (value : scalarValue s (absoluteOf s l) = some w)
    (commutes : ∀ mem pending cache,
      advance 3 (write w { s with mem := mem, pending := pending, cache := cache }) =
        { write w s with p := s.p + 3, mem := mem, pending := pending, cache := cache }) :
    loads out s (absoluteOf s l) w (write w) := by
  obtain ⟨u, read, bytes, line, rest⟩ := scalarRead_of_value range value
  have next_ : out = .next (advance 3 (write w u)) := by rw [ends, scalarLoad, read]; rfl
  have after : advance 3 (write w u) =
      { write w s with p := s.p + 3, mem := u.mem, pending := u.pending, cache := u.cache } := by
    rw [rest]
    exact commutes u.mem u.pending u.cache
  rw [after] at next_
  exact ⟨_, next_, bytes, line, rfl⟩

theorem stores_scalarStore {l : AWord} {v : Word} {s : State} {out : Result} (ends : out = scalarStore l v s)
    (range : dataInRange s l = true) (exists_ : absoluteOf s l < memWords s.sys) : stores out s (absoluteOf s l) v := by
  rw [scalarStore, scalarWrite_of_exists range exists_] at ends
  exact ⟨_, ends, wordAt_queueWrite_same (s := s), fun _ ne => byteAt_queueWrite_ne (s := s) (v := v) ne,
    cachesScalar_cacheKeep rfl, fun _ => mem_ibufStored_queueWrite (s := s) (v := v), rfl⟩

/-- The logical address of a scalar reference, from its number (45 R394). -/
theorem effectiveAddress_of_toNat {h : BitVec 3} {exp l : AWord} {s : State}
    (sum : l.toNat = ((readAh s h).toNat + exp.toNat) % 2 ^ 32) : l = effectiveAddress h exp s :=
  BitVec.eq_of_toNat_eq (sum.trans (BitVec.toNat_add _ _).symm)

/-- Settles O51: a load of any of the rows is the scalar load at its address. -/
theorem scalarLoads : Obligations.ScalarLoads := by
  intro h i exp l w s range value intoA intoS
  have loadsA {out : Result} (ends : out = scalarLoad l (writeA i) s) : intoA out := by
    have := loads_scalarLoad ends range value fun _ _ _ => rfl
    rwa [show writeA i w = fun u => { u with a := setReg u.a i (BitVec.ofNat 32 w.toNat) } from
      funext fun u => by rw [BitVec.ofNat_toNat]; rfl] at this
  have loadsS {out : Result} (ends : out = scalarLoad l (writeS i) s) : intoS out :=
    loads_scalarLoad ends range value fun _ _ _ => rfl
  refine ⟨fun sum => ?_, ?_, ?_⟩
  · obtain rfl := effectiveAddress_of_toNat sum
    exact ⟨loadsA rfl, loadsS rfl⟩
  · rintro rfl
    exact ⟨loadsA rfl, loadsA rfl, loadsS rfl, loadsS rfl⟩
  · rintro rfl
    exact ⟨loadsA rfl, loadsS rfl⟩

/-- Settles O52: a store of any of the rows is the scalar store at its address. -/
theorem scalarStores : Obligations.ScalarStores := by
  intro h i exp l s range exists_ fromA fromS
  have storesA {out : Result} (ends : out = scalarStore l ((reg s.a i).setWidth 64) s) : fromA out := by
    have := stores_scalarStore ends range exists_
    rwa [← BitVec.ofNat_toNat] at this
  have storesS {out : Result} (ends : out = scalarStore l (reg s.s i) s) : fromS out :=
    stores_scalarStore ends range exists_
  refine ⟨fun sum => ?_, ?_, ?_⟩
  · obtain rfl := effectiveAddress_of_toNat sum
    exact ⟨storesA rfl, storesS rfl⟩
  · rintro rfl
    exact ⟨storesA rfl, storesA rfl, storesS rfl, storesS rfl⟩
  · rintro rfl
    exact ⟨storesA rfl, storesS rfl⟩

end Sys2Proof.References

/-! PROOFS. The transfers of many words from memory (spec/20_memory.md, section 6): what the other agents leave between two
reads, what a load that completes leaves, and what one leaves whose first failing reference ends it (D55). -/

namespace Sys2Proof.Transfers

open Sys2Proof Sys2Proof.Machine Sys2Proof.Safety Sys2Proof.References

/-! ## No event takes a value from memory -/

/-- A byte has a value after a list of writes when it had one before, or its word is written. -/
theorem isSome_readByte_performList (ws : List (Nat × Word)) (b : Nat) :
    ∀ m, (readByte (performList m ws) b).isSome = true ↔ (readByte m b).isSome = true ∨ ∃ e ∈ ws, e.1 = b / 8 := by
  induction ws with
  | nil => simp [performList]
  | cons e ws ih =>
    intro m
    refine (ih (writeWord m e.1 e.2)).trans ?_
    by_cases he : e.1 = b / 8
    · have hb : b = 8 * e.1 + b % 8 := by omega
      have here : (readByte (writeWord m e.1 e.2) b).isSome = true := by
        rw [hb, readByte_writeWord_in _ _ _ _ (by omega),
          List.getElem?_eq_getElem (show b % 8 < (wordBytes e.2).length from Nat.mod_lt _ (by decide))]
        rfl
      exact iff_of_true (.inl here) (.inr ⟨e, List.mem_cons_self, he⟩)
    · rw [readByte_writeWord_out _ _ _ _ (by omega)]
      simp [he]

theorem isSome_byteAt (s : State) (b : Nat) :
    (byteAt s b).isSome = true ↔ (readByte s.mem b).isSome = true ∨ ∃ e ∈ s.pending, e.1 = b / 8 :=
  isSome_readByte_performList s.pending b s.mem

/-- A word has a value when each of its bytes has one. -/
theorem isSome_readWord (m : List Host.Cell) (a : Nat) :
    (readWord m a).isSome = true ↔ ∀ b, b / 8 = a → (readByte m b).isSome = true := by
  constructor
  · intro h b hb
    obtain ⟨n, hn, rfl⟩ : ∃ n < 8, b = 8 * a + n := ⟨b % 8, Nat.mod_lt _ (by decide), by omega⟩
    by_contra none_
    rw [Bool.not_eq_true, Option.isSome_eq_false_iff, Option.isNone_iff_eq_none] at none_
    unfold readWord at h
    interval_cases n <;> simp_all [Option.bind_eq_bind]
  · intro h
    obtain ⟨x0, h0⟩ := Option.isSome_iff_exists.1 (h (8 * a) (by omega))
    obtain ⟨x1, h1⟩ := Option.isSome_iff_exists.1 (h (8 * a + 1) (by omega))
    obtain ⟨x2, h2⟩ := Option.isSome_iff_exists.1 (h (8 * a + 2) (by omega))
    obtain ⟨x3, h3⟩ := Option.isSome_iff_exists.1 (h (8 * a + 3) (by omega))
    obtain ⟨x4, h4⟩ := Option.isSome_iff_exists.1 (h (8 * a + 4) (by omega))
    obtain ⟨x5, h5⟩ := Option.isSome_iff_exists.1 (h (8 * a + 5) (by omega))
    obtain ⟨x6, h6⟩ := Option.isSome_iff_exists.1 (h (8 * a + 6) (by omega))
    obtain ⟨x7, h7⟩ := Option.isSome_iff_exists.1 (h (8 * a + 7) (by omega))
    unfold readWord
    rw [h0, h1, h2, h3, h4, h5, h6, h7]
    rfl

/-- Every byte of s that has a value has one in t. -/
def ValuesStay (s t : State) : Prop := ∀ b, (byteAt s b).isSome = true → (byteAt t b).isSome = true

theorem ValuesStay.wordAt {s t : State} (stay : ValuesStay s t) {a : Nat} (h : (wordAt s a).isSome = true) :
    (wordAt t a).isSome = true :=
  (isSome_readWord _ a).2 fun b hb => stay b ((isSome_readWord _ a).1 h b hb)

/-- Erasing the first element found leaves every other. -/
theorem mem_eraseP_of_ne {α : Type} {p : α → Bool} {l : List α} {x e : α} (found : l.find? p = some e) (mem : x ∈ l)
    (ne : x ≠ e) : x ∈ l.eraseP p := by
  induction l with
  | nil => exact absurd mem List.not_mem_nil
  | cons y l ih =>
    cases hy : p y with
    | true =>
      rw [List.find?_cons_of_pos hy] at found
      rw [List.eraseP_cons_of_pos hy]
      exact (List.mem_cons.1 mem).resolve_left fun same => ne (same.trans (Option.some.inj found))
    | false =>
      have not_ : ¬p y = true := by rw [hy]; decide
      rw [List.find?_cons_of_neg not_] at found
      rw [List.eraseP_cons_of_neg not_]
      exact List.mem_cons.2 ((List.mem_cons.1 mem).imp_right (ih found))

theorem valuesStay_performOldest (k : Nat) (s : State) : ValuesStay s (performOldest k s) := by
  intro b h
  rw [isSome_byteAt] at h ⊢
  unfold performOldest
  split
  · next e found =>
    rw [show writeWord s.mem e.1 e.2 = performList s.mem [e] from rfl, isSome_readByte_performList]
    rcases h with h | ⟨x, hx, h⟩
    · exact .inl (.inl h)
    · by_cases same : x = e
      · exact .inl (.inr ⟨e, List.mem_singleton_self e, same ▸ h⟩)
      · exact .inr ⟨x, mem_eraseP_of_ne found hx same, h⟩
  · exact h

theorem valuesStay_storeByOther (s : State) (a : Nat) (w : Word) : ValuesStay s (storeByOther s a w) := by
  intro b h
  rw [isSome_byteAt] at h ⊢
  refine h.imp_left fun h => ?_
  exact (isSome_readByte_performList [(a, w)] b s.mem).2 (.inl h)

theorem valuesStay_congr {s t : State} (mem : t.mem = s.mem) (pending : t.pending = s.pending) : ValuesStay s t :=
  fun b h => (byteAt_congr mem pending b).symm ▸ h

theorem valuesStay_eventEffect (s : State) (e : Event) : ValuesStay s (eventEffect s e) := by
  cases e with
  | perform sec => exact valuesStay_performOldest sec.val s
  | deliver => simp only [eventEffect, deliverOldest]; split <;> exact valuesStay_congr rfl rfl
  | clockRequest => simp only [eventEffect]; split <;> exact valuesStay_congr rfl rfl
  | cacheInvalidated => simp only [eventEffect]; split <;> exact valuesStay_congr rfl rfl
  | channelWord n w =>
    simp only [eventEffect, moveChannelWord]
    split
    · split
      · exact valuesStay_storeByOther _ _ w
      · exact valuesStay_congr rfl rfl
    · exact valuesStay_congr rfl rfl
  | channelDone n err => simp only [eventEffect, finishChannel]; split <;> exact valuesStay_congr rfl rfl
  | deviceReady n => simp only [eventEffect]; split <;> exact valuesStay_congr rfl rfl
  | peerStore a w =>
    simp only [eventEffect]
    split
    · exact valuesStay_storeByOther s _ w
    · exact valuesStay_congr rfl rfl
  | peerInterruptCleared n => simp only [eventEffect]; split <;> exact valuesStay_congr rfl rfl
  | peerInvalidated n => simp only [eventEffect]; split <;> exact valuesStay_congr rfl rfl
  | peerStatus n st => simp only [eventEffect]; split <;> exact valuesStay_congr rfl rfl
  | _ => exact valuesStay_congr rfl rfl

theorem valuesStay_environment (s : State) : ValuesStay s (environment s) :=
  environment_keeps (P := fun t => ValuesStay s t) (fun _ _ _ h => h)
    (fun t e h b hb => valuesStay_eventEffect t e b (h b hb)) (valuesStay_congr rfl rfl)

/-! ## The state between two reads of a transfer -/

/-- What the reads of a transfer that began in s, and the other agents between them, can have left (log 21, D32). -/
structure DuringLoad (s u : State) : Prop where
  kept : u =
    { s with
      mem := u.mem, pending := u.pending, ibufStored := u.ibufStored, cache := u.cache, sharedQueue := u.sharedQueue
      clusters := u.clusters, rtc := u.rtc, chans := u.chans, peers := u.peers, ipiPending := u.ipiPending
      ivcPending := u.ivcPending, pciRequest := u.pciRequest, inputs := u.inputs, seq := u.seq }
  values : ValuesStay s u
  quiet : s.inputs = [] →
    u = { s with mem := u.mem, pending := u.pending, seq := u.seq } ∧ ∀ b, byteAt u b = byteAt s b

namespace DuringLoad

variable {s u v : State}

theorem refl (s : State) : DuringLoad s s := ⟨rfl, fun _ h => h, fun _ => ⟨rfl, fun _ => rfl⟩⟩

theorem trans (h : DuringLoad s u) (h' : DuringLoad u v) : DuringLoad s v where
  kept := by rw [h'.kept, h.kept]
  values := fun b hb => h'.values b (h.values b hb)
  quiet := fun rest => by
    obtain ⟨same, bytes⟩ := h.quiet rest
    obtain ⟨same', bytes'⟩ := h'.quiet (by rw [same]; exact rest)
    exact ⟨by rw [same', same], fun b => (bytes' b).trans (bytes b)⟩

theorem performSection (k : Nat) (s : State) : DuringLoad s (performSection k s) :=
  ⟨rfl, fun b hb => (byteAt_performSection k s b).symm ▸ hb, fun _ => ⟨rfl, byteAt_performSection k s⟩⟩

theorem environment (s : State) : DuringLoad s (environment s) :=
  ⟨environment_kept s, valuesStay_environment s, fun rest => by
    rw [environment_of_no_inputs rest]
    exact ⟨rfl, fun _ => rfl⟩⟩

theorem sys_eq (h : DuringLoad s u) : u.sys = s.sys := by rw [h.kept]

theorem modes_eq (h : DuringLoad s u) : u.modes = s.modes := by rw [h.kept]

theorem dataInRange_eq (h : DuringLoad s u) (l : AWord) : dataInRange u l = dataInRange s l := by
  rw [h.kept]
  rfl

theorem absoluteOf_eq (h : DuringLoad s u) (l : AWord) : absoluteOf u l = absoluteOf s l := by
  rw [h.kept]
  rfl

theorem wordAt_eq (h : DuringLoad s u) (rest : s.inputs = []) (a : Nat) : wordAt u a = wordAt s a :=
  wordAt_congr fun b _ => (h.quiet rest).2 b

/-- A reference that answers leaves such a state, and its word is the one it had if no other agent acts. -/
theorem of_read (h : DuringLoad s u) {l : AWord} {w : Word} (read : uncachedRead l u = .done (w, v)) :
    dataInRange s l = true ∧ DuringLoad s (Machine.environment v) ∧
      (s.inputs = [] → wordAt s (absoluteOf s l) = some w) := by
  obtain ⟨range, read⟩ := uncachedRead_done read
  obtain ⟨-, rfl, word⟩ := absRead_done read
  rw [h.absoluteOf_eq, readWord_performSection] at word
  rw [h.dataInRange_eq] at range
  exact ⟨range, (h.trans (performSection _ u)).trans (environment _), fun rest => (h.wordAt_eq rest _).symm.trans word⟩

/-- A reference in range to a word that exists and had a value answers. -/
theorem read (h : DuringLoad s u) {l : AWord} (range : dataInRange s l = true)
    (exists_ : absoluteOf s l < memWords s.sys) (value : (wordAt s (absoluteOf s l)).isSome = true) :
    ∃ r, uncachedRead l u = .done r := by
  obtain ⟨w, found⟩ := Option.isSome_iff_exists.1 (h.values.wordAt value)
  rw [← h.dataInRange_eq] at range
  rw [← h.absoluteOf_eq, ← h.sys_eq] at exists_
  rw [← h.absoluteOf_eq] at found
  rw [uncachedRead, dataAddress_inRange range]
  exact ⟨_, absRead_of_wordAt exists_ found⟩

end DuringLoad

/-! ## The reads of a transfer -/

section
variable {s : State} {at_ : Nat → AWord}

/-- The words answered are those of their elements, all in range. -/
def WordsOf (s : State) (at_ : Nat → AWord) (ws : List (Nat × Word)) : Prop :=
  ∀ q ∈ ws, dataInRange s (at_ q.1) = true ∧ (s.inputs = [] → wordAt s (absoluteOf s (at_ q.1)) = some q.2)

theorem readElements_completes (es : List Nat) : ∀ {u : State}, DuringLoad s u →
    (∀ e ∈ es, dataInRange s (at_ e) = true ∧ absoluteOf s (at_ e) < memWords s.sys ∧
      (wordAt s (absoluteOf s (at_ e))).isSome = true) →
    ∃ ws t, readElements at_ es u = .done (ws, t) ∧ DuringLoad s t ∧ ws.map Prod.fst = es ∧ WordsOf s at_ ws := by
  induction es with
  | nil => exact fun h _ => ⟨[], _, rfl, h, rfl, fun q hq => nomatch hq⟩
  | cons e es ih =>
    intro u h ready
    obtain ⟨range, exists_, value⟩ := ready e List.mem_cons_self
    obtain ⟨⟨w, v⟩, read⟩ := h.read range exists_ value
    obtain ⟨-, after, word⟩ := h.of_read read
    obtain ⟨ws, t, reads, during, names, words⟩ := ih after fun f hf => ready f (List.mem_cons_of_mem e hf)
    refine ⟨(e, w) :: ws, t, ?_, during, ?_, ?_⟩
    · rw [readElements, read]
      dsimp only [Access.andThen]
      rw [reads]
    · rw [List.map_cons, names]
    · exact List.forall_mem_cons.2 ⟨⟨range, word⟩, words⟩

theorem readSome_during (es : List Nat) : ∀ {u : State}, DuringLoad s u →
    DuringLoad s (readSome at_ es u).2 ∧ WordsOf s at_ (readSome at_ es u).1 := by
  induction es with
  | nil => exact fun h => ⟨h, fun q hq => nomatch hq⟩
  | cons e es ih =>
    intro u h
    rw [readSome]
    split
    · next r read =>
      obtain ⟨range, after, word⟩ := h.of_read read
      obtain ⟨during, words⟩ := ih after
      exact ⟨during, List.forall_mem_cons.2 ⟨⟨range, word⟩, words⟩⟩
    · exact ih h

theorem andThen_assoc {α β γ : Type} (x : Access α) (f : α → Access β) (g : β → Access γ) :
    (x.andThen f).andThen g = x.andThen fun a => (f a).andThen g := by
  cases x <;> rfl

/-- While the references before it answer, the first reference that fails is made, and what it answers decides. -/
theorem readElements_first (es : List Nat) (e : Nat) (rest : List Nat) : ∀ {u : State}, DuringLoad s u →
    (∀ f ∈ es, dataInRange s (at_ f) = true ∧ absoluteOf s (at_ f) < memWords s.sys ∧
      (wordAt s (absoluteOf s (at_ f))).isSome = true) →
    ∃ v k, DuringLoad s v ∧ readElements at_ (es ++ e :: rest) u = (uncachedRead (at_ e) v).andThen k := by
  induction es with
  | nil => exact fun h _ => ⟨_, _, h, rfl⟩
  | cons f es ih =>
    intro u h ready
    obtain ⟨range, exists_, value⟩ := ready f List.mem_cons_self
    obtain ⟨⟨w, v⟩, read⟩ := h.read range exists_ value
    obtain ⟨x, k, during, reads⟩ := ih (h.of_read read).2.1 fun g hg => ready g (List.mem_cons_of_mem f hg)
    refine ⟨x, fun r => (k r).andThen fun q => .done ((f, w) :: q.1, q.2), during, ?_⟩
    rw [List.cons_append, readElements, read]
    dsimp only [Access.andThen]
    rw [reads]
    exact andThen_assoc _ _ _

end

/-- The elements of a transfer, split at one of them. -/
theorem range_split {e n : Nat} (he : e < n) : ∃ rest, List.range n = List.range e ++ e :: rest := by
  obtain ⟨d, rfl⟩ := Nat.exists_eq_add_of_lt he
  refine ⟨(List.range d).map fun x => e + 1 + x, ?_⟩
  rw [show e + d + 1 = (e + 1) + d by omega, List.range_add, List.range_succ, List.append_assoc]
  rfl

end Sys2Proof.Transfers

/-! PROOFS. The block loads and the vector loads (spec/42_a_register.md, section 5; spec/47_vector_float_mask_memory.md,
section 4). -/

namespace Sys2Proof.Loads

open Sys2Proof Sys2Proof.Machine Sys2Proof.Safety Sys2Proof.References Sys2Proof.Transfers Sys2Proof.Monitor
  Sys2Proof.ScalarTransfer

/-! ## Where the words of a load go -/

/-- The registers a transfer can write. -/
def registers (s : State) :
    Vector AWord 8 × Vector Word 8 × Vector AWord 64 × Vector Word 64 × Vector (Vector Word 64) 8 :=
  (s.a, s.s, s.b, s.t, s.v)

/-- Storing word e of a load writes the register `dest e` of a bank of 64, and leaves the rest as it was in s. -/
structure LoadsInto {α : Type} (s : State) (put : Nat → Word → State → State) (dest : Nat → BitVec 6)
    (bank : State → BitVec 6 → α) (value : Word → α) (rest : State → Prop) : Prop where
  same : ∀ e w u, bank (put e w u) (dest e) = value w
  other : ∀ e w u r, dest e ≠ r → bank (put e w u) r = bank u r
  frame : ∀ e w u, ∃ a x b t v, put e w u = { u with a := a, s := x, b := b, t := t, v := v }
  keeps : ∀ e w u, rest u → rest (put e w u)
  starts : rest s
  ofRegisters : ∀ u v, registers u = registers v → bank u = bank v ∧ (rest u ↔ rest v)

theorem registers_during {s u : State} (h : DuringLoad s u) : registers u = registers s := by
  rw [h.kept]
  rfl

namespace LoadsInto

variable {α : Type} {s : State} {put : Nat → Word → State → State} {dest : Nat → BitVec 6}
  {bank : State → BitVec 6 → α} {value : Word → α} {rest : State → Prop}

theorem putAll_rest (h : LoadsInto s put dest bank value rest) (ws : List (Nat × Word)) {u : State} (hu : rest u) :
    rest (putAll put ws u) :=
  putAll_keeps h.keeps ws hu

theorem putAll_frame (h : LoadsInto s put dest bank value rest) (ws : List (Nat × Word)) (u : State) :
    ∃ a x b t v, putAll put ws u = { u with a := a, s := x, b := b, t := t, v := v } :=
  putAll_keeps (P := fun w => ∃ a x b t v, w = { u with a := a, s := x, b := b, t := t, v := v })
    (fun e w _ ⟨a, x, b, t, v, hw⟩ => by
      obtain ⟨a', x', b', t', v', hp⟩ := h.frame e w { u with a := a, s := x, b := b, t := t, v := v }
      exact ⟨a', x', b', t', v', by rw [hw, hp]⟩)
    ws ⟨_, _, _, _, _, rfl⟩

/-- A register that is the destination of no word is as before. -/
theorem putAll_other (h : LoadsInto s put dest bank value rest) {r : BitVec 6} (ws : List (Nat × Word)) :
    ∀ u : State, (∀ q ∈ ws, dest q.1 ≠ r) → bank (putAll put ws u) r = bank u r := by
  induction ws with
  | nil => exact fun _ _ => rfl
  | cons q ws ih =>
    intro u none_
    obtain ⟨here, others⟩ := List.forall_mem_cons.1 none_
    exact (ih (put q.1 q.2 u) others).trans (h.other _ _ _ _ here)

/-- Any other register holds the last of the words whose destination it is. -/
theorem putAll_dest (h : LoadsInto s put dest bank value rest) {r : BitVec 6} (ws : List (Nat × Word)) :
    ∀ u : State, (∃ q ∈ ws, dest q.1 = r) → ∃ q ∈ ws, dest q.1 = r ∧ bank (putAll put ws u) r = value q.2 := by
  induction ws with
  | nil => exact fun u ⟨q, hq, _⟩ => absurd hq List.not_mem_nil
  | cons q ws ih =>
    intro u some_
    by_cases later : ∃ x ∈ ws, dest x.1 = r
    · obtain ⟨x, hx, named, holds⟩ := ih (put q.1 q.2 u) later
      exact ⟨x, List.mem_cons_of_mem q hx, named, holds⟩
    · have here : dest q.1 = r := by
        obtain ⟨x, hx, named⟩ := some_
        rcases List.mem_cons.1 hx with rfl | hx
        · exact named
        · exact absurd ⟨x, hx, named⟩ later
      refine ⟨q, List.mem_cons_self, here, ?_⟩
      have last := h.putAll_other ws (put q.1 q.2 u) fun x hx named => later ⟨x, hx, named⟩
      rw [← here] at last ⊢
      exact last.trans (h.same _ _ _)

/-- What a transfer leaves but for its bank: the words stored, P gone on, and draws made. -/
theorem after (h : LoadsInto s put dest bank value rest) {u : State} (during : DuringLoad s u) (ws : List (Nat × Word))
    (seq : Nat) {t : State} (ht : t = advance 1 { putAll put ws u with seq := seq }) :
    sameButShared s t ∧ rest t ∧ bank t = bank (putAll put ws u) ∧ pAfter s t 1 ∧
      (s.inputs = [] → (∀ b, byteAt t b = byteAt s b) ∧ t.cache = s.cache) := by
  obtain ⟨a, x, b, tt, v, frame⟩ := h.putAll_frame ws u
  have same : registers t = registers (putAll put ws u) := by rw [ht]; rfl
  obtain ⟨bank_, rest_⟩ := h.ofRegisters _ _ same
  refine ⟨⟨?_, fun quiet => ?_⟩, rest_.2 (h.putAll_rest ws ?_), bank_, pAfter_advance _ _ _ ?_, fun quiet => ⟨?_, ?_⟩⟩
  · rw [ht, frame, during.kept]
    rfl
  · rw [ht, frame, (during.quiet quiet).1]
    rfl
  · exact (h.ofRegisters _ _ (registers_during during)).2.2 h.starts
  · rw [ht, frame, during.kept]
    rfl
  · intro b
    rw [← (during.quiet quiet).2 b, ht, frame]
    exact byteAt_congr rfl rfl b
  · rw [ht, frame, (during.quiet quiet).1]
    rfl

/-- A load whose words are all readable completes, and each word goes to its destination. -/
theorem completes (h : LoadsInto s put dest bank value rest) {n : Nat} {at_ : Nat → AWord} {out : Result}
    (ends : out = transferIn n at_ put s) (ready : readable s n at_)
    (distinct : ∀ e < n, ∀ f < n, dest e = dest f → e = f) :
    ∃ t, out = .next t ∧ sameButShared s t ∧ rest t ∧ pAfter s t 1 ∧
      (∀ r, (∀ e < n, dest e ≠ r) → bank t r = bank s r) ∧
      (s.inputs = [] → (∀ b, byteAt t b = byteAt s b) ∧ t.cache = s.cache ∧
        ∀ e < n, ∃ w, wordAt s (absoluteOf s (at_ e)) = some w ∧ bank t (dest e) = value w) := by
  obtain ⟨ws, u, reads, during, names, words⟩ := readElements_completes (List.range n) (DuringLoad.refl s)
    fun e he => ready e (List.mem_range.1 he)
  have numbers (q) (hq : q ∈ ws) : q.1 < n := List.mem_range.1 (names ▸ List.mem_map_of_mem hq)
  rw [transferIn, reads] at ends
  obtain ⟨shared, rest_, bank_, p, quiet⟩ :=
    h.after (t := advance 1 (putAll put ws u)) during ws (putAll put ws u).seq rfl
  have start : bank u = bank s := (h.ofRegisters _ _ (registers_during during)).1
  refine ⟨_, ends, shared, rest_, p, fun r none_ => ?_, fun q => ⟨(quiet q).1, (quiet q).2, fun e he => ?_⟩⟩
  · rw [bank_, h.putAll_other ws u fun q hq => none_ q.1 (numbers q hq), start]
  · have mem : e ∈ ws.map Prod.fst := names ▸ List.mem_range.2 he
    obtain ⟨x, hx, rfl⟩ := List.mem_map.1 mem
    obtain ⟨y, hy, named, holds⟩ := h.putAll_dest ws u ⟨x, hx, rfl⟩
    have same : y.1 = x.1 := distinct _ (numbers y hy) _ he named
    exact ⟨y.2, same ▸ (words y hy).2 q, by rw [bank_]; exact holds⟩

/-- What an abandoned load leaves: each register is as before, or holds a word of its own in range. -/
theorem abandons (h : LoadsInto s put dest bank value rest) {n : Nat} {at_ : Nat → AWord}
    {into : BitVec 6 → Nat → Prop} (names : ∀ e < n, into (dest e) e) {out : Result}
    (ends : out = raise causeOre (advance 1 (abandonedLoad n at_ put s))) :
    abandonsLoad out s n at_ into bank value rest := by
  obtain ⟨during, words⟩ := readSome_during (at_ := at_) (List.range n) (DuringLoad.refl s)
  let read := readSome at_ (List.range n) s
  let chosen := read.1.filter fun q => Config.partialDone s.seq q.1
  have ofChosen (q) (hq : q ∈ chosen) : q ∈ read.1 := (List.mem_filter.1 hq).1
  have numbers (q) (hq : q ∈ chosen) : q.1 < n :=
    List.mem_range.1 ((readSome_elements (List.range n) s).subset (List.mem_map_of_mem (ofChosen q hq)))
  obtain ⟨shared, rest_, bank_, p, quiet⟩ :=
    h.after (t := advance 1 (abandonedLoad n at_ put s)) during chosen (read.2.seq + 1) rfl
  have start : bank read.2 = bank s := (h.ofRegisters _ _ (registers_during during)).1
  have register (r) : bank (advance 1 (abandonedLoad n at_ put s)) r = bank s r ∨
      ∃ q ∈ chosen, dest q.1 = r ∧ bank (advance 1 (abandonedLoad n at_ put s)) r = value q.2 := by
    rw [bank_]
    by_cases some_ : ∃ q ∈ chosen, dest q.1 = r
    · exact .inr (h.putAll_dest chosen read.2 some_)
    · rw [h.putAll_other chosen read.2 fun q hq named => some_ ⟨q, hq, named⟩, start]
      exact .inl rfl
  refine ⟨advance 1 (abandonedLoad n at_ put s), ends, shared, rest_, p, fun r => ?_, fun q => ⟨(quiet q).1, fun r => ?_⟩⟩
  · refine (register r).imp_right fun ⟨q, hq, named, _⟩ => ⟨q.1, numbers q hq, ?_, (words q (ofChosen q hq)).1⟩
    exact named ▸ names q.1 (numbers q hq)
  · refine (register r).imp_right fun ⟨x, hx, named, holds⟩ => ⟨x.1, numbers x hx, ?_, (words x (ofChosen x hx)).1,
      x.2, (words x (ofChosen x hx)).2 q, holds⟩
    exact named ▸ names x.1 (numbers x hx)

/-- The first reference of a load that fails decides. -/
theorem firstFailure (h : LoadsInto s put dest bank value rest) {n : Nat} {at_ : Nat → AWord}
    {into : BitVec 6 → Nat → Prop} (names : ∀ e < n, into (dest e) e) {out : Result}
    (ends : out = transferIn n at_ put s) : loadEnds out s n at_ (abandonsLoad out s n at_ into bank value rest) := by
  intro e he ready
  obtain ⟨tail, split⟩ := range_split he
  obtain ⟨v, k, during, reads⟩ := readElements_first (List.range e) e tail (DuringLoad.refl s)
    fun f hf => ready f (List.mem_range.1 hf)
  rw [← split] at reads
  rw [transferIn, reads, uncachedRead] at ends
  refine ⟨fun range => ⟨fun ior => ?_, fun ior => ?_⟩, fun range above => ?_, fun range exists_ quiet none_ => ?_⟩
  · rw [dataAddress_refused ((during.dataInRange_eq _).trans range) (during.modes_eq ▸ ior)] at ends
    exact ends
  · rw [dataAddress_rangeError ((during.dataInRange_eq _).trans range) (during.modes_eq ▸ ior)] at ends
    exact h.abandons names ends
  · rw [dataAddress_inRange ((during.dataInRange_eq _).trans range), during.absoluteOf_eq] at ends
    dsimp only [Access.andThen] at ends
    rw [absRead_absent (during.sys_eq ▸ above)] at ends
    exact ends
  · rw [dataAddress_inRange ((during.dataInRange_eq _).trans range), during.absoluteOf_eq] at ends
    dsimp only [Access.andThen] at ends
    rw [absRead_noValue (during.sys_eq ▸ exists_) ((during.wordAt_eq quiet _).trans none_)] at ends
    exact ends

end LoadsInto

/-! ## Block loads -/

theorem strided_one (s : State) : strided s 1 = fun e => reg s.a 0 + BitVec.ofNat 32 e :=
  funext fun _ => congrArg _ (BitVec.mul_one _)

theorem toNat_blockRegister (jk : BitVec 6) (e : Nat) : (blockRegister jk e).toNat = (jk.toNat + e) % 64 := by
  rw [blockRegister, BitVec.toNat_add, BitVec.toNat_ofNat, Nat.add_mod_mod]

theorem blockRegister_inj {jk : BitVec 6} {n e f : Nat} (few : n ≤ 64) (he : e < n) (hf : f < n)
    (same : blockRegister jk e = blockRegister jk f) : e = f := by
  have numbers := congrArg BitVec.toNat same
  rw [toNat_blockRegister, toNat_blockRegister] at numbers
  omega

theorem withCount_of_le {i : BitVec 3} {s : State} (go : Nat → Result) (few : (reg s.a i).toNat ≤ 64) :
    withCount i s go = go (reg s.a i).toNat :=
  if_neg (Nat.not_lt.2 few)

theorem withCount_refused {i : BitVec 3} {s : State} (go : Nat → Result) (many : 64 < (reg s.a i).toNat) :
    withCount i s go = .refused .blockCount :=
  if_pos many

/-- One word of a block load, into its B register. -/
def putB (jk : BitVec 6) (e : Nat) (w : Word) (t : State) : State :=
  { t with b := setReg64 t.b (blockRegister jk e) (w.setWidth 32) }

/-- One word of a block load, into its T register. -/
def putT (jk : BitVec 6) (e : Nat) (w : Word) (t : State) : State :=
  { t with t := setReg64 t.t (blockRegister jk e) w }

theorem blockLoadB_eq (i : BitVec 3) (jk : BitVec 6) (s : State) :
    blockLoadB i jk s = withCount i s fun n => transferIn n (strided s 1) (putB jk) s := rfl

theorem blockLoadT_eq (i : BitVec 3) (jk : BitVec 6) (s : State) :
    blockLoadT i jk s = withCount i s fun n => transferIn n (strided s 1) (putT jk) s := rfl

theorem registers_eq_iff (u v : State) :
    registers u = registers v ↔ u.a = v.a ∧ u.s = v.s ∧ u.b = v.b ∧ u.t = v.t ∧ u.v = v.v := by
  simp only [registers, Prod.mk.injEq]

theorem loadsInto_b (jk : BitVec 6) (s : State) :
    LoadsInto s (putB jk) (blockRegister jk) (fun t => reg64 t.b) (fun w => BitVec.ofNat 32 w.toNat)
      fun t => t.a = s.a ∧ t.s = s.s ∧ t.t = s.t ∧ t.v = s.v where
  same _ w _ := (reg64_setReg64_same _ _ _).trans (BitVec.ofNat_toNat 32 w).symm
  other _ _ _ _ ne := reg64_setReg64_ne _ _ (Ne.symm ne)
  frame _ _ _ := ⟨_, _, _, _, _, rfl⟩
  keeps _ _ _ h := h
  starts := ⟨rfl, rfl, rfl, rfl⟩
  ofRegisters u v same := by
    obtain ⟨a, x, b, t, v⟩ := (registers_eq_iff u v).1 same
    rw [a, x, b, t, v]
    exact ⟨rfl, Iff.rfl⟩

theorem loadsInto_t (jk : BitVec 6) (s : State) :
    LoadsInto s (putT jk) (blockRegister jk) (fun t => reg64 t.t) (fun w => w)
      fun t => t.a = s.a ∧ t.s = s.s ∧ t.b = s.b ∧ t.v = s.v where
  same _ _ _ := reg64_setReg64_same _ _ _
  other _ _ _ _ ne := reg64_setReg64_ne _ _ (Ne.symm ne)
  frame _ _ _ := ⟨_, _, _, _, _, rfl⟩
  keeps _ _ _ h := h
  starts := ⟨rfl, rfl, rfl, rfl⟩
  ofRegisters u v same := by
    obtain ⟨a, x, b, t, v⟩ := (registers_eq_iff u v).1 same
    rw [a, x, b, t, v]
    exact ⟨rfl, Iff.rfl⟩

/-- Settles O40: words of at most 64 go to different registers. -/
theorem blockLoads : Obligations.BlockLoads := by
  intro i jk s n at_ into loadsB loadsT
  have named {r : BitVec 6} {e : Nat} (h : into r.toNat e) : blockRegister jk e = r :=
    BitVec.eq_of_toNat_eq ((toNat_blockRegister jk e).trans h.symm)
  have destined {r : BitVec 6} {e : Nat} (h : blockRegister jk e = r) : into r.toNat e := h ▸ toNat_blockRegister jk e
  refine ⟨fun few ready => ?_, fun many => ?_⟩
  · have distinct : ∀ e < n, ∀ f < n, blockRegister jk e = blockRegister jk f → e = f :=
      fun e he f hf => blockRegister_inj few he hf
    have b {out : Result} (ends : out = blockLoadB i jk s) : loadsB out := by
      rw [blockLoadB_eq, withCount_of_le _ few, strided_one] at ends
      obtain ⟨t, next_, shared, ⟨ha, hs, ht, hv⟩, p, others, quiet⟩ := (loadsInto_b jk s).completes ends ready distinct
      refine ⟨t, next_, shared, ha, hs, ht, hv, p, fun r none_ => others r fun e he h => none_ e he (destined h),
        fun q => ⟨(quiet q).1, (quiet q).2.1, fun r e he h => ?_⟩⟩
      obtain ⟨w, word, holds⟩ := (quiet q).2.2 e he
      rw [named h] at holds
      exact ⟨w, word, (congrArg BitVec.toNat holds).trans (BitVec.toNat_ofNat _ _)⟩
    have t {out : Result} (ends : out = blockLoadT i jk s) : loadsT out := by
      rw [blockLoadT_eq, withCount_of_le _ few, strided_one] at ends
      obtain ⟨t, next_, shared, ⟨ha, hs, hb, hv⟩, p, others, quiet⟩ := (loadsInto_t jk s).completes ends ready distinct
      refine ⟨t, next_, shared, ha, hs, hb, hv, p, fun r none_ => others r fun e he h => none_ e he (destined h),
        fun q => ⟨(quiet q).1, (quiet q).2.1, fun r e he h => ?_⟩⟩
      obtain ⟨w, word, holds⟩ := (quiet q).2.2 e he
      rw [named h] at holds
      exact word.trans (congrArg some holds.symm)
    exact ⟨b rfl, b rfl, t rfl, t rfl⟩
  · have b : blockLoadB i jk s = .refused .blockCount := withCount_refused _ many
    have t : blockLoadT i jk s = .refused .blockCount := withCount_refused _ many
    exact ⟨b, b, t, t⟩

/-! ## Vector loads -/

theorem strided_eq_ofNat (s : State) (stride : AWord) :
    strided s stride = fun e => BitVec.ofNat 32 ((reg s.a 0).toNat + e * stride.toNat) := by
  funext e
  apply BitVec.eq_of_toNat_eq
  rw [strided, BitVec.toNat_add, BitVec.toNat_mul, BitVec.toNat_ofNat, BitVec.toNat_ofNat, Nat.mod_mul_mod,
    Nat.add_mod_mod]

theorem consecutive_eq_ofNat (s : State) : strided s 1 = fun e => BitVec.ofNat 32 ((reg s.a 0).toNat + e) := by
  rw [strided_eq_ofNat]
  funext e
  exact congrArg (fun x => BitVec.ofNat 32 ((reg s.a 0).toNat + x)) (Nat.mul_one e)

theorem indexed_eq_ofNat (s : State) (k : BitVec 3) :
    indexed s k = fun e => BitVec.ofNat 32 ((reg s.a 0).toNat + (element s k e).toNat) := by
  funext e
  apply BitVec.eq_of_toNat_eq
  rw [indexed, BitVec.toNat_add, BitVec.toNat_setWidth, BitVec.toNat_ofNat, Nat.add_mod_mod]

theorem toNat_ofNat_six {e : Nat} (he : e < 64) : (BitVec.ofNat 6 e).toNat = e := by
  rw [BitVec.toNat_ofNat]
  exact Nat.mod_eq_of_lt he

theorem loadsInto_v (i : BitVec 3) (s : State) :
    LoadsInto s (putElement i) (BitVec.ofNat 6) (fun t r => element t i r.toNat) (fun w => w)
      fun t => t.a = s.a ∧ t.s = s.s ∧ t.b = s.b ∧ t.t = s.t ∧ ∀ r, r ≠ i → reg t.v r = reg s.v r where
  same e w u := (element_setReg64 u i (BitVec.ofNat 6 e) w (BitVec.isLt _)).trans (if_pos rfl)
  other e w u r ne := (element_setReg64 u i (BitVec.ofNat 6 e) w r.isLt).trans
    (if_neg fun same => ne (BitVec.eq_of_toNat_eq same.symm))
  frame _ _ _ := ⟨_, _, _, _, _, rfl⟩
  keeps _ _ _ := fun ⟨a, x, b, t, others⟩ => ⟨a, x, b, t, fun r ne => (reg_setReg_ne _ _ ne).trans (others r ne)⟩
  starts := ⟨rfl, rfl, rfl, rfl, fun _ _ => rfl⟩
  ofRegisters u v same := by
    obtain ⟨a, x, b, t, v⟩ := (registers_eq_iff u v).1 same
    unfold element
    rw [a, x, b, t, v]
    exact ⟨rfl, Iff.rfl⟩

/-- Settles O59: the elements below VL are different ones. -/
theorem vectorLoads : Obligations.VectorLoads := by
  intro i k s few a0 loadsV
  have loads {out : Result} {at_ : Nat → AWord} (ends : out = vectorLoad i at_ s) (ready : readable s s.vl.toNat at_) :
      ∃ t, out = .next t ∧ sameButShared s t ∧ t.a = s.a ∧ t.s = s.s ∧ t.b = s.b ∧ t.t = s.t ∧
        (∀ r, r ≠ i → reg t.v r = reg s.v r) ∧ (∀ e < 64, s.vl.toNat ≤ e → element t i e = element s i e) ∧
        pAfter s t 1 ∧
        (s.inputs = [] → (∀ b, byteAt t b = byteAt s b) ∧ t.cache = s.cache ∧
          ∀ e < s.vl.toNat, wordAt s (absoluteOf s (at_ e)) = some (element t i e)) := by
    have number {e : Nat} (he : e < s.vl.toNat) : (BitVec.ofNat 6 e).toNat = e := toNat_ofNat_six (by omega)
    obtain ⟨t, next_, shared, ⟨a, x, b, tt, others⟩, p, untouched, quiet⟩ := (loadsInto_v i s).completes ends ready
      fun e he f hf same => by rw [← number he, ← number hf, same]
    refine ⟨t, next_, shared, a, x, b, tt, others, fun e he above => ?_, p,
      fun q => ⟨(quiet q).1, (quiet q).2.1, fun e he => ?_⟩⟩
    · have := untouched (BitVec.ofNat 6 e) fun f hf same => by
        have := congrArg BitVec.toNat same
        rw [number hf, toNat_ofNat_six he] at this
        omega
      rwa [toNat_ofNat_six he] at this
    · obtain ⟨w, word, holds⟩ := (quiet q).2.2 e he
      rw [number he] at holds
      exact word.trans (congrArg some holds.symm)
  refine ⟨?_, ?_, ?_⟩
  · exact loads (congrArg (vectorLoad i · s) (strided_eq_ofNat s (readAk s k)))
  · exact loads (congrArg (vectorLoad i · s) (consecutive_eq_ofNat s))
  · exact loads (congrArg (vectorLoad i · s) (indexed_eq_ofNat s k))

end Sys2Proof.Loads

/-! PROOFS. The block stores and the vector stores (spec/42_a_register.md, section 5;
spec/47_vector_float_mask_memory.md, section 4): what the stores of a transfer leave word by word, and what one leaves whose
first failing reference ends it (D55). -/

namespace Sys2Proof.Stores

open Sys2Proof Sys2Proof.Machine Sys2Proof.Safety Sys2Proof.References Sys2Proof.Transfers Sys2Proof.Loads

/-! ## Block and vector writes differ in what they do to the cache -/

/-- A write past the cache that does `drop` to the line of its word (20 R101). -/
def storeWith (drop : List (Nat × Word) → Nat → List (Nat × Word)) (l : AWord) (v : Word) (s : State) : Access State :=
  (dataAddress l s).andThen fun a => (absWrite a v s).andThen fun u => .done { u with cache := drop u.cache a }

/-- The state after such a write to the word at a. -/
def storeOne (drop : List (Nat × Word) → Nat → List (Nat × Word)) (s : State) (a : Nat) (v : Word) : State :=
  { queueWrite s a v with cache := drop s.cache a }

theorem vectorWrite_eq : vectorWrite = storeWith cacheDrop := rfl

theorem blockWrite_eq : blockWrite = storeWith fun c _ => c := by
  funext l v s
  unfold blockWrite storeWith
  cases dataAddress l s with
  | done a => exact (show absWrite a v s = (absWrite a v s).andThen .done by cases absWrite a v s <;> rfl)
  | _ => rfl

/-- What `drop` does to the lines: `line` to the one of the word stored, nothing to the others. -/
structure LineRule (drop : List (Nat × Word) → Nat → List (Nat × Word)) (line : Option Word → Option Word) : Prop where
  same : ∀ c a, cacheFind (drop c a) a = line (cacheFind c a)
  other : ∀ c a x, x ≠ a → cacheFind (drop c a) x = cacheFind c x
  again : ∀ x, line (line x) = line x

theorem lineRule_drop : LineRule cacheDrop fun _ => none :=
  ⟨cacheFind_cacheDrop_same, fun c _ _ ne => cacheFind_cacheDrop_ne c ne, fun _ => rfl⟩

theorem lineRule_stay : LineRule (fun c _ => c) fun line => line := ⟨fun _ _ => rfl, fun _ _ _ _ => rfl, fun _ => rfl⟩

/-! ## The state between two writes of a transfer -/

/-- The word at a, its line and what the fetch knows of it are as before. -/
def Untouched (s u : State) (a : Nat) : Prop :=
  (∀ b, b / 8 = a → byteAt u b = byteAt s b) ∧ cacheFind u.cache a = cacheFind s.cache a ∧
    (a ∈ u.ibufStored ↔ a ∈ s.ibufStored)

/-- The word at a holds v, the fetch knows it to be stored into, and `line` says what became of its line. -/
def Written (s u : State) (line : Option Word → Option Word) (a : Nat) (v : Word) : Prop :=
  wordAt u a = some v ∧ a ∈ u.ibufStored ∧ cacheFind u.cache a = line (cacheFind s.cache a)

/-- After the writes of the elements `made`, in order: each word is untouched, or holds the last of them to it. -/
structure DuringStore (s : State) (at_ : Nat → AWord) (value : Nat → Word) (line : Option Word → Option Word)
    (u : State) (made : List Nat) : Prop where
  kept : u = { s with pending := u.pending, ibufStored := u.ibufStored, cache := u.cache }
  words : ∀ a, (Untouched s u a ∧ ∀ e ∈ made, absoluteOf s (at_ e) ≠ a) ∨
    ∃ e ∈ made, absoluteOf s (at_ e) = a ∧ (∀ f ∈ made, e < f → absoluteOf s (at_ f) ≠ a) ∧ Written s u line a (value e)

section
variable {drop : List (Nat × Word) → Nat → List (Nat × Word)} {line : Option Word → Option Word} {s u : State}

theorem untouched_storeOne (rule : LineRule drop line) {a x : Nat} (v : Word) (ne : x ≠ a) (h : Untouched s u x) :
    Untouched s (storeOne drop u a v) x := by
  obtain ⟨bytes, cached, marked⟩ := h
  refine ⟨fun b hb => (byteAt_queueWrite_ne (s := u) (hb ▸ ne)).trans (bytes b hb), ?_, ?_⟩
  · exact (rule.other u.cache a x ne).trans cached
  · exact (mem_ibufStored_queueWrite (s := u) (v := v)).trans ((or_iff_left ne).trans marked)

theorem written_storeOne_ne (rule : LineRule drop line) {a x : Nat} {v w : Word} (ne : x ≠ a)
    (h : Written s u line x w) : Written s (storeOne drop u a v) line x w := by
  obtain ⟨word, marked, cached⟩ := h
  exact ⟨(wordAt_queueWrite_ne (s := u) ne).trans word, (mem_ibufStored_queueWrite (s := u) (v := v)).2 (.inl marked),
    (rule.other u.cache a x ne).trans cached⟩

theorem written_storeOne_same (rule : LineRule drop line) {a : Nat} {v : Word}
    (before : cacheFind u.cache a = cacheFind s.cache a ∨ cacheFind u.cache a = line (cacheFind s.cache a)) :
    Written s (storeOne drop u a v) line a v := by
  refine ⟨wordAt_queueWrite_same (s := u), (mem_ibufStored_queueWrite (s := u) (v := v)).2 (.inr rfl),
    (rule.same u.cache a).trans ?_⟩
  rcases before with before | before
  · rw [before]
  · rw [before, rule.again]

end

namespace DuringStore

variable {drop : List (Nat × Word) → Nat → List (Nat × Word)} {line : Option Word → Option Word} {s u : State}
  {at_ : Nat → AWord} {value : Nat → Word} {made : List Nat}

theorem start (s : State) : DuringStore s at_ value line s [] :=
  ⟨rfl, fun _ => .inl ⟨⟨fun _ _ => rfl, rfl, Iff.rfl⟩, fun _ he => absurd he List.not_mem_nil⟩⟩

theorem sys_eq (h : DuringStore s at_ value line u made) : u.sys = s.sys := by rw [h.kept]

theorem modes_eq (h : DuringStore s at_ value line u made) : u.modes = s.modes := by rw [h.kept]

theorem dataInRange_eq (h : DuringStore s at_ value line u made) (l : AWord) : dataInRange u l = dataInRange s l := by
  rw [h.kept]
  rfl

theorem absoluteOf_eq (h : DuringStore s at_ value line u made) (l : AWord) : absoluteOf u l = absoluteOf s l := by
  rw [h.kept]
  rfl

/-- One more write, of an element after those made. -/
theorem next (rule : LineRule drop line) (h : DuringStore s at_ value line u made) {e : Nat}
    (later : ∀ f ∈ made, f < e) :
    DuringStore s at_ value line (storeOne drop u (absoluteOf s (at_ e)) (value e)) (made ++ [e]) := by
  refine ⟨by rw [h.kept]; rfl, fun a => ?_⟩
  by_cases here : a = absoluteOf s (at_ e)
  · subst here
    refine .inr ⟨e, List.mem_append_right _ (List.mem_singleton_self e), rfl, fun f hf more => ?_,
      written_storeOne_same rule ?_⟩
    · rcases List.mem_append.1 hf with hf | hf
      · exact absurd (later f hf) (Nat.not_lt.2 more.le)
      · exact absurd (List.mem_singleton.1 hf) more.ne'
    · rcases h.words (absoluteOf s (at_ e)) with ⟨⟨-, cached, -⟩, -⟩ | ⟨_, _, _, _, _, _, cached⟩
      · exact .inl cached
      · exact .inr cached
  · have others {P : Nat → Prop} (hP : ∀ f ∈ made, P f → absoluteOf s (at_ f) ≠ a) (f : Nat) (hf : f ∈ made ++ [e])
        (hp : P f) : absoluteOf s (at_ f) ≠ a := by
      rcases List.mem_append.1 hf with hf | hf
      · exact hP f hf hp
      · rw [List.mem_singleton.1 hf]
        exact Ne.symm here
    rcases h.words a with ⟨untouched, none_⟩ | ⟨f, hf, at_a, last, written⟩
    · exact .inl ⟨untouched_storeOne rule _ here untouched,
        fun f hf => others (P := fun _ => True) (fun g hg _ => none_ g hg) f hf trivial⟩
    · exact .inr ⟨f, List.mem_append_left _ hf, at_a, others last, written_storeOne_ne rule here written⟩

/-- A write in range to a word that exists is made. -/
theorem write (h : DuringStore s at_ value line u made) {l : AWord} (v : Word) (range : dataInRange s l = true)
    (exists_ : absoluteOf s l < memWords s.sys) : storeWith drop l v u = .done (storeOne drop u (absoluteOf s l) v) := by
  rw [storeWith, dataAddress_inRange ((h.dataInRange_eq l).trans range), h.absoluteOf_eq]
  dsimp only [Access.andThen]
  rw [absWrite_exists (h.sys_eq ▸ exists_)]
  rfl

/-- And only such a write is. -/
theorem of_write (h : DuringStore s at_ value line u made) {l : AWord} {v : Word} {w : State}
    (made_ : storeWith drop l v u = .done w) : dataInRange s l = true ∧ absoluteOf s l < memWords s.sys := by
  obtain ⟨a, address, made_⟩ := andThen_done made_
  obtain ⟨range, rfl⟩ := dataAddress_done address
  obtain ⟨x, stored_, -⟩ := andThen_done made_
  rw [← h.dataInRange_eq, ← h.absoluteOf_eq, ← h.sys_eq]
  exact ⟨range, (absWrite_done stored_).1⟩

end DuringStore

/-! ## The writes of a transfer -/

/-- Whether an abandoned store makes the write of an element: a reference could make it, and it is chosen. -/
def makes (s : State) (at_ : Nat → AWord) (chosen : Nat → Bool) (e : Nat) : Bool :=
  chosen e && (dataInRange s (at_ e) && decide (absoluteOf s (at_ e) < memWords s.sys))

section
variable {drop : List (Nat × Word) → Nat → List (Nat × Word)} {line : Option Word → Option Word} {s : State}
  {at_ : Nat → AWord} {value : Nat → Word}

theorem lt_of_pairwise_append {made es : List Nat} {e : Nat} (rising : (made ++ e :: es).Pairwise (· < ·)) :
    (∀ f ∈ made, f < e) ∧ (made ++ [e] ++ es).Pairwise (· < ·) :=
  ⟨fun _ hf => (List.pairwise_append.1 rising).2.2 _ hf _ List.mem_cons_self, by
    rwa [List.append_assoc, List.singleton_append]⟩

theorem writeElements_completes (rule : LineRule drop line) (es : List Nat) : ∀ {u : State} {made : List Nat},
    DuringStore s at_ value line u made → (made ++ es).Pairwise (· < ·) →
    (∀ e ∈ es, dataInRange s (at_ e) = true ∧ absoluteOf s (at_ e) < memWords s.sys) →
    ∃ t, writeElements (storeWith drop) at_ value es u = .done t ∧ DuringStore s at_ value line t (made ++ es) := by
  induction es with
  | nil => exact fun h _ _ => ⟨_, rfl, by rwa [List.append_nil]⟩
  | cons e es ih =>
    intro u made h rising ready
    obtain ⟨later, rising⟩ := lt_of_pairwise_append rising
    obtain ⟨range, exists_⟩ := ready e List.mem_cons_self
    obtain ⟨t, writes, during⟩ := ih (h.next rule later) rising fun f hf => ready f (List.mem_cons_of_mem e hf)
    refine ⟨t, ?_, by rwa [List.append_assoc, List.singleton_append] at during⟩
    rw [writeElements, h.write (value e) range exists_]
    exact writes

/-- While the references before it are made, the first reference that fails is tried, and what it answers decides. -/
theorem writeElements_first (rule : LineRule drop line) (es : List Nat) (e : Nat) (rest : List Nat) :
    ∀ {u : State} {made : List Nat}, DuringStore s at_ value line u made → (made ++ es).Pairwise (· < ·) →
    (∀ f ∈ es, dataInRange s (at_ f) = true ∧ absoluteOf s (at_ f) < memWords s.sys) →
    ∃ v k, DuringStore s at_ value line v (made ++ es) ∧
      writeElements (storeWith drop) at_ value (es ++ e :: rest) u = (storeWith drop (at_ e) (value e) v).andThen k := by
  induction es with
  | nil => exact fun h _ _ => ⟨_, _, by rwa [List.append_nil], rfl⟩
  | cons f es ih =>
    intro u made h rising ready
    obtain ⟨later, rising⟩ := lt_of_pairwise_append rising
    obtain ⟨range, exists_⟩ := ready f List.mem_cons_self
    obtain ⟨v, k, during, writes⟩ := ih (h.next rule later) rising fun g hg => ready g (List.mem_cons_of_mem f hg)
    refine ⟨v, k, by rwa [List.append_assoc, List.singleton_append] at during, ?_⟩
    rw [List.cons_append, writeElements, h.write (value f) range exists_]
    exact writes

theorem writeSome_during (rule : LineRule drop line) (chosen : Nat → Bool) (es : List Nat) :
    ∀ {u : State} {made : List Nat}, DuringStore s at_ value line u made → (made ++ es).Pairwise (· < ·) →
    DuringStore s at_ value line (writeSome (storeWith drop) at_ value chosen es u)
      (made ++ es.filter (makes s at_ chosen)) := by
  induction es with
  | nil => exact fun h _ => by rwa [List.filter_nil, List.append_nil]
  | cons e es ih =>
    intro u made h rising
    obtain ⟨later, risingWith⟩ := lt_of_pairwise_append rising
    have risingWithout : (made ++ es).Pairwise (· < ·) :=
      rising.sublist (List.Sublist.append_left (List.sublist_cons_self e es) made)
    have skipped (no : makes s at_ chosen e = false) :
        DuringStore s at_ value line (writeSome (storeWith drop) at_ value chosen es u)
          (made ++ (e :: es).filter (makes s at_ chosen)) := by
      rw [List.filter_cons, no]
      exact ih h risingWithout
    rw [writeSome]
    split
    · next w written =>
      obtain ⟨range, exists_⟩ := h.of_write written
      have whole : makes s at_ chosen e = chosen e := by
        rw [makes, range, decide_eq_true exists_, Bool.and_true, Bool.and_true]
      cases choice : chosen e with
      | false => exact skipped (whole.trans choice)
      | true =>
        obtain rfl : storeOne drop u (absoluteOf s (at_ e)) (value e) = w :=
          Access.done.inj ((h.write (value e) range exists_).symm.trans written)
        have after := ih (h.next rule later) risingWith
        rw [List.append_assoc, List.singleton_append] at after
        rw [List.filter_cons, whole, choice]
        exact after
    · next notMade =>
      refine skipped ?_
      by_contra made_
      rw [Bool.not_eq_false, makes, Bool.and_eq_true, Bool.and_eq_true, decide_eq_true_eq] at made_
      exact notMade _ (h.write (value e) made_.2.1 made_.2.2)

end

/-! ## What a store transfer leaves -/

section
variable {drop : List (Nat × Word) → Nat → List (Nat × Word)} {line : Option Word → Option Word} {s : State}
  {at_ : Nat → AWord} {value : Nat → Word} {n : Nat}

/-- All the elements written: the terms of Safety. -/
theorem stored_of_during {t : State} (h : DuringStore s at_ value line t (List.range n)) : stored s t n at_ value := by
  refine ⟨fun e he last => ?_, fun b none_ => ?_, fun a => ?_⟩
  · rcases h.words (absoluteOf s (at_ e)) with ⟨-, none_⟩ | ⟨f, hf, same, after, word, -⟩
    · exact absurd rfl (none_ e (List.mem_range.2 he))
    · rcases Nat.lt_trichotomy e f with less | rfl | more
      · exact absurd same (last f (List.mem_range.1 hf) less)
      · exact word
      · exact absurd rfl (after e (List.mem_range.2 he) more)
  · rcases h.words (b / 8) with ⟨⟨bytes, -⟩, -⟩ | ⟨f, hf, same, -⟩
    · exact bytes b rfl
    · exact absurd same.symm (none_ f (List.mem_range.1 hf))
  · rcases h.words a with ⟨⟨-, -, marked⟩, none_⟩ | ⟨f, hf, same, -, -, marked, -⟩
    · exact marked.trans (or_iff_left fun ⟨e, he, same⟩ => none_ e (List.mem_range.2 he) same.symm).symm
    · exact iff_of_true marked (.inr ⟨f, List.mem_range.1 hf, same.symm⟩)

/-- A store whose words are all writable completes. -/
theorem transferOut_completes (rule : LineRule drop line) {out : Result}
    (ends : out = transferOut n at_ value (storeWith drop) s) (ready : writable s n at_) :
    ∃ u, writeElements (storeWith drop) at_ value (List.range n) s = .done u ∧ out = .next (advance 1 u) ∧
      DuringStore s at_ value line u (List.range n) := by
  obtain ⟨u, writes, during⟩ := writeElements_completes rule (List.range n) (DuringStore.start s)
    (made := []) List.pairwise_lt_range fun e he => ready e (List.mem_range.1 he)
  rw [transferOut, writes] at ends
  exact ⟨u, writes, ends, during⟩

/-- The free choice of an abandoned store, one for each word of memory (D55). -/
def chooses (s : State) (at_ : Nat → AWord) (e : Nat) : Bool := Config.partialDone s.seq (absoluteOf s (at_ e))

theorem abandonedStore_during (rule : LineRule drop line) :
    ∃ u, abandonedStore n at_ value (storeWith drop) s = { u with seq := s.seq + 1 } ∧
      DuringStore s at_ value line u ((List.range n).filter (makes s at_ (chooses s at_))) :=
  ⟨_, rfl, writeSome_during rule (chooses s at_) (List.range n) (DuringStore.start s) (made := [])
    List.pairwise_lt_range⟩

/-- An abandoned store leaves each word as before, or with the last of the elements stored to it: those to one word are
chosen together. -/
theorem abandonsStore_of_raise (rule : LineRule drop line) {out : Result}
    (ends : out = raise causeOre (advance 1 (abandonedStore n at_ value (storeWith drop) s))) :
    abandonsStore out s n at_ value line := by
  obtain ⟨u, left, during⟩ := abandonedStore_during (n := n) (at_ := at_) (value := value) (s := s) rule
  rw [left] at ends
  refine ⟨_, ends, pAfter_advance _ _ _ ?_, fun a => ?_, ?_⟩
  · rw [during.kept]
    rfl
  · refine (during.words a).imp (fun h => h.1) ?_
    rintro ⟨e, he, rfl, last, written⟩
    obtain ⟨below, made⟩ := List.mem_filter.1 he
    have range : dataInRange s (at_ e) = true := by
      rw [makes, Bool.and_eq_true, Bool.and_eq_true] at made
      exact made.2.1
    refine ⟨e, List.mem_range.1 below, range, rfl, fun f hf more same => ?_, written⟩
    have together : makes s at_ (chooses s at_) f = makes s at_ (chooses s at_) e := by
      simp only [makes, chooses, dataInRange, same]
    exact last f (List.mem_filter.2 ⟨List.mem_range.2 hf, together.trans made⟩) more same
  · rw [during.kept]
    rfl

/-- The first reference of a store that fails decides. -/
theorem transferOut_firstFailure (rule : LineRule drop line) {out : Result}
    (ends : out = transferOut n at_ value (storeWith drop) s) :
    storeEnds out s n at_ (abandonsStore out s n at_ value line) := by
  intro e he ready
  obtain ⟨tail, split⟩ := range_split he
  obtain ⟨v, k, during, writes⟩ := writeElements_first (value := value) rule (List.range e) e tail (DuringStore.start s)
    (made := []) List.pairwise_lt_range fun f hf => ready f (List.mem_range.1 hf)
  rw [← split] at writes
  rw [transferOut, writes, storeWith] at ends
  refine ⟨fun range => ⟨fun ior => ?_, fun ior => ?_⟩, fun range above => ?_⟩
  · rw [dataAddress_refused ((during.dataInRange_eq _).trans range) (during.modes_eq ▸ ior)] at ends
    exact ends
  · rw [dataAddress_rangeError ((during.dataInRange_eq _).trans range) (during.modes_eq ▸ ior)] at ends
    exact abandonsStore_of_raise rule ends
  · rw [dataAddress_inRange ((during.dataInRange_eq _).trans range), during.absoluteOf_eq] at ends
    dsimp only [Access.andThen] at ends
    rw [absWrite_absent (during.sys_eq ▸ above)] at ends
    exact ends

end

/-! ## Block stores -/

theorem blockRegister_eq_ofNat (jk : BitVec 6) (e : Nat) : blockRegister jk e = BitVec.ofNat 6 (jk.toNat + e) :=
  BitVec.eq_of_toNat_eq ((toNat_blockRegister jk e).trans (BitVec.toNat_ofNat (jk.toNat + e) 6).symm)

/-- A block store of words: the count at most 64, each value from its register. -/
theorem blockStoreB_eq {i : BitVec 3} {jk : BitVec 6} {s : State} (few : (reg s.a i).toNat ≤ 64) :
    blockStoreB i jk s =
      transferOut (reg s.a i).toNat (fun e => reg s.a 0 + BitVec.ofNat 32 e)
        (fun e => BitVec.ofNat 64 (reg64 s.b (BitVec.ofNat 6 (jk.toNat + e))).toNat) (storeWith fun c _ => c) s := by
  rw [blockStoreB, withCount_of_le _ few, strided_one, blockWrite_eq]
  congr 1
  funext e
  rw [blockRegister_eq_ofNat, BitVec.ofNat_toNat]

theorem blockStoreT_eq {i : BitVec 3} {jk : BitVec 6} {s : State} (few : (reg s.a i).toNat ≤ 64) :
    blockStoreT i jk s =
      transferOut (reg s.a i).toNat (fun e => reg s.a 0 + BitVec.ofNat 32 e)
        (fun e => reg64 s.t (BitVec.ofNat 6 (jk.toNat + e))) (storeWith fun c _ => c) s := by
  rw [blockStoreT, withCount_of_le _ few, strided_one, blockWrite_eq]
  congr 1
  funext e
  rw [blockRegister_eq_ofNat]

/-- A block write keeps the whole cache. -/
theorem cache_of_storeWith_stay {l : AWord} {v : Word} {s u : State} (h : storeWith (fun c _ => c) l v s = .done u) :
    u.cache = s.cache := by
  rw [← blockWrite_eq] at h
  obtain ⟨-, rfl⟩ := absWrite_done (blockWrite_done h).2
  rfl

/-- A block store completes and leaves the cache as it was. -/
theorem blockStore_moves {s : State} {n : Nat} {at_ : Nat → AWord} {value : Nat → Word} {out : Result}
    (ends : out = transferOut n at_ value (storeWith fun c _ => c) s) (ready : writable s n at_) :
    ∃ t, out = .next t ∧ stored s t n at_ value ∧ pAfter s t 1 ∧
      t = { s with pending := t.pending, ibufStored := t.ibufStored, p := t.p } := by
  obtain ⟨u, writes, next_, during⟩ := transferOut_completes lineRule_stay ends ready
  have cache : u.cache = s.cache :=
    writeElements_keeps (P := fun w => w.cache = s.cache)
      (fun _ _ _ _ h same => (cache_of_storeWith_stay h).trans same) (List.range n) writes rfl
  have kept := during.kept
  rw [cache] at kept
  have words : stored s u n at_ value := stored_of_during during
  exact ⟨advance 1 u, next_, words, pAfter_advance _ _ _ (by rw [kept]; rfl), by rw [kept]; rfl⟩

/-- Settles O41: a count of at most 64 stores each register of its own. -/
theorem blockStores : Obligations.BlockStores := by
  intro i jk s n at_ from_ moves
  refine ⟨fun few ready => ?_, fun many => ?_⟩
  · have b := blockStore_moves (blockStoreB_eq (jk := jk) few) ready
    have t := blockStore_moves (blockStoreT_eq (jk := jk) few) ready
    exact ⟨b, b, t, t⟩
  · have b : blockStoreB i jk s = .refused .blockCount := withCount_refused _ many
    have t : blockStoreT i jk s = .refused .blockCount := withCount_refused _ many
    exact ⟨b, b, t, t⟩

/-! ## Vector stores -/

/-- Settles O60: each word is untouched with its line, or holds the last element stored to it and its line is gone. -/
theorem vectorStores : Obligations.VectorStores := by
  intro j k s a0 storesV
  have stores_ {out : Result} {at_ : Nat → AWord} (ends : out = vectorStore j at_ s)
      (ready : writable s s.vl.toNat at_) :
      ∃ t, out = .next t ∧ stored s t s.vl.toNat at_ (element s j) ∧
        (∀ e < s.vl.toNat, cacheFind t.cache (absoluteOf s (at_ e)) = none) ∧
        (∀ a, (∀ e < s.vl.toNat, a ≠ absoluteOf s (at_ e)) → cacheFind t.cache a = cacheFind s.cache a) ∧
        pAfter s t 1 ∧
        t = { s with pending := t.pending, ibufStored := t.ibufStored, cache := t.cache, p := t.p } := by
    obtain ⟨u, -, next_, during⟩ := transferOut_completes lineRule_drop ends ready
    have words : stored s u s.vl.toNat at_ (element s j) := stored_of_during during
    refine ⟨advance 1 u, next_, words, fun e he => ?_, fun a none_ => ?_,
      pAfter_advance _ _ _ (by rw [during.kept]; rfl), by rw [during.kept]; rfl⟩
    · rcases during.words (absoluteOf s (at_ e)) with ⟨-, none_⟩ | ⟨_, _, _, _, _, _, gone⟩
      · exact absurd rfl (none_ e (List.mem_range.2 he))
      · exact gone
    · rcases during.words a with ⟨⟨-, cached, -⟩, -⟩ | ⟨f, hf, same, -⟩
      · exact cached
      · exact absurd same.symm (none_ f (List.mem_range.1 hf))
  refine ⟨?_, ?_, ?_⟩
  · exact stores_ (congrArg (vectorStore j · s) (strided_eq_ofNat s (readAk s k)))
  · exact stores_ (congrArg (vectorStore j · s) (consecutive_eq_ofNat s))
  · exact stores_ (congrArg (vectorStore j · s) (indexed_eq_ofNat s k))

end Sys2Proof.Stores

/-! PROOFS. References out of range (spec/60_exceptions.md, section 3): of a scalar reference nothing else is done, and of a
transfer the first reference that fails decides. -/

namespace Sys2Proof.RangeError

open Sys2Proof Sys2Proof.Machine Sys2Proof.Safety Sys2Proof.References Sys2Proof.Transfers Sys2Proof.Loads
  Sys2Proof.Stores Sys2Proof.Exchange

/-- What the outcome of a scalar reference out of range is. -/
def endsOutOfRange (s : State) (out : Result) : Prop :=
  (s.modes.ior = false → out = .refused .operandRange) ∧
    ∀ ws, s.modes.ior = true → packageAt s ws → runnable ws →
      exchanges out { s with p := s.p + 3 } (s.flags.union (causeOre.union (pendingCauses s))) ws

section
variable {s : State} {l : AWord} {out : Result}

/-- An instruction of three parcels that forms its address first. -/
theorem endsOutOfRange_of_dataAddress {k : Nat → Access State} (range : dataInRange s l = false)
    (ends : out = finishMemory 3 s ((dataAddress l s).andThen k)) : endsOutOfRange s out := by
  refine ⟨fun ior => ?_, fun ws ior found runs => ?_⟩
  · rw [dataAddress_refused range ior] at ends
    exact ends
  · rw [dataAddress_rangeError range ior] at ends
    rw [ends]
    exact exchanges_raise (s := { s with p := s.p + 3 }) causeOre found runs

theorem endsOutOfRange_scalarLoad {write : Word → State → State} (range : dataInRange s l = false)
    (ends : out = scalarLoad l write s) : endsOutOfRange s out :=
  endsOutOfRange_of_dataAddress range (ends.trans (congrArg (finishMemory 3 s) (andThen_assoc _ _ _)))

theorem endsOutOfRange_scalarStore {v : Word} (range : dataInRange s l = false) (ends : out = scalarStore l v s) :
    endsOutOfRange s out :=
  endsOutOfRange_of_dataAddress range ends

end

/-- The sixteen rows of the scalar references, at each form of address. -/
theorem scalarRangeError (s : State) (h i : BitVec 3) (exp l : AWord) (range : dataInRange s l = false) :
    let ends (ins : Instr) : Prop := endsOutOfRange s (exec ins s)
    (l.toNat = ((readAh s h).toNat + exp.toNat) % 2 ^ 32 →
        ends (.loadA h i exp) ∧ ends (.storeA h i exp) ∧ ends (.loadS h i exp) ∧ ends (.storeS h i exp)) ∧
      (l = exp → ends (.loadAAbs i exp) ∧ ends (.loadAAbs2 i exp) ∧ ends (.storeAAbs i exp) ∧
        ends (.storeAAbs2 i exp) ∧ ends (.loadSAbs i exp) ∧ ends (.loadSAbs2 i exp) ∧ ends (.storeSAbs i exp) ∧
        ends (.storeSAbs2 i exp)) ∧
      (l = readAh s h → ends (.loadAInd h i) ∧ ends (.storeAInd h i) ∧ ends (.loadSInd h i) ∧
        ends (.storeSInd h i)) := by
  intro ends
  have loadA {ins : Instr} (e : exec ins s = scalarLoad l (writeA i) s) : ends ins := endsOutOfRange_scalarLoad range e
  have loadS {ins : Instr} (e : exec ins s = scalarLoad l (writeS i) s) : ends ins := endsOutOfRange_scalarLoad range e
  have storeA {ins : Instr} (e : exec ins s = scalarStore l ((reg s.a i).setWidth 64) s) : ends ins :=
    endsOutOfRange_scalarStore range e
  have storeS {ins : Instr} (e : exec ins s = scalarStore l (reg s.s i) s) : ends ins :=
    endsOutOfRange_scalarStore range e
  refine ⟨fun sum => ?_, ?_, ?_⟩
  · obtain rfl := effectiveAddress_of_toNat sum
    exact ⟨loadA rfl, storeA rfl, loadS rfl, storeS rfl⟩
  · rintro rfl
    exact ⟨loadA rfl, loadA rfl, storeA rfl, storeA rfl, loadS rfl, loadS rfl, storeS rfl, storeS rfl⟩
  · rintro rfl
    exact ⟨loadA rfl, storeA rfl, loadS rfl, storeS rfl⟩

/-- Settles O53: a transfer is a load or a store whose first failing reference decides, at each form of address. -/
theorem operandRangeError : Obligations.OperandRangeError := by
  intro s
  refine ⟨scalarRangeError s, ?_, ?_⟩
  · intro i jk n at_ into from_ loadsB loadsT storesB storesT few
    have names : ∀ e < n, into (blockRegister jk e) e := fun e _ => toNat_blockRegister jk e
    have loadB : blockLoadB i jk s = transferIn n at_ (putB jk) s := by
      rw [blockLoadB_eq, withCount_of_le _ few, strided_one]
    have loadT : blockLoadT i jk s = transferIn n at_ (putT jk) s := by
      rw [blockLoadT_eq, withCount_of_le _ few, strided_one]
    have b {ins : Instr} (e : exec ins s = blockLoadB i jk s) : loadsB ins :=
      (loadsInto_b jk s).firstFailure names (e.trans loadB)
    have t {ins : Instr} (e : exec ins s = blockLoadT i jk s) : loadsT ins :=
      (loadsInto_t jk s).firstFailure names (e.trans loadT)
    have b' {ins : Instr} (e : exec ins s = blockStoreB i jk s) : storesB ins :=
      transferOut_firstFailure lineRule_stay (e.trans (blockStoreB_eq few))
    have t' {ins : Instr} (e : exec ins s = blockStoreT i jk s) : storesT ins :=
      transferOut_firstFailure lineRule_stay (e.trans (blockStoreT_eq few))
    exact ⟨⟨b rfl, b rfl, t rfl, t rfl⟩, b' rfl, b' rfl, t' rfl, t' rfl⟩
  · intro i k few a0 n strided_ consecutive indexed_ load store
    have names : ∀ e < n, (BitVec.ofNat 6 e).toNat = e := fun e he => toNat_ofNat_six (Nat.lt_of_lt_of_le he few)
    have loads_ {ins : Instr} {at_ : Nat → AWord} (e : exec ins s = vectorLoad i at_ s) : load ins at_ :=
      (loadsInto_v i s).firstFailure names e
    have stores_ {ins : Instr} {at_ : Nat → AWord} (e : exec ins s = vectorStore i at_ s) : store ins at_ :=
      transferOut_firstFailure lineRule_drop e
    exact ⟨loads_ (congrArg (vectorLoad i · s) (strided_eq_ofNat s (readAk s k))),
      loads_ (congrArg (vectorLoad i · s) (consecutive_eq_ofNat s)),
      loads_ (congrArg (vectorLoad i · s) (indexed_eq_ofNat s k)),
      stores_ (congrArg (vectorStore i · s) (strided_eq_ofNat s (readAk s k))),
      stores_ (congrArg (vectorStore i · s) (consecutive_eq_ofNat s)),
      stores_ (congrArg (vectorStore i · s) (indexed_eq_ofNat s k))⟩

end Sys2Proof.RangeError
